-- ==== Sys2Proof/Word.lean ====
section
/-! DEFINITION. The two word types of CORE: the 8-bit byte the bus moves and the 16-bit word of PC, SP, the register
pairs and every address (00_scope R5, R6). -/

namespace Sys2Proof

/-- A byte, the addressable unit and the width of a general register (00_scope R5). -/
abbrev Byte := BitVec 8

/-- A 16-bit word: a register pair, SP, PC or an address (00_scope R5). -/
abbrev Word := BitVec 16

end Sys2Proof
end

