-- ==== Sys2Proof/Machine/Bytes.lean ====
section
/-! DEFINITION. Bits, halves and signs of bytes and words: the slices, concatenation and `sext_8` of 00_scope R6 and R7. -/

namespace Sys2Proof.Machine

/-- `v[7:0]` of a word (00_scope R6). -/
def loByte (w : Word) : Byte := w.extractLsb' 0 8

/-- `v[15:8]` of a word (00_scope R6). -/
def hiByte (w : Word) : Byte := w.extractLsb' 8 8

/-- `{hi, lo}`, the first operand in the high bits (00_scope R6). -/
def joinBytes (hi lo : Byte) : Word := hi ++ lo

/-- `v[i]`, bit 0 the least significant (00_scope R6). -/
def bit (v : Byte) (i : Nat) : Bool := v.getLsbD i

/-- `sext_8(v)`: `v` if `v < 128`, else `v - 256` (00_scope R7). -/
def sext8 (v : Byte) : Int := if v.toNat < 128 then v.toNat else (v.toNat : Int) - 256

/-- `u16(w + sext_8(n))` (00_scope R6, R7). -/
def addSext (w : Word) (n : Byte) : Word := BitVec.ofInt 16 ((w.toNat : Int) + sext8 n)

/-- The address `0xFF00 + zext_8(n)` of the LDH forms (30_encoding R122, 40_load8 R161). -/
def highPage (n : Byte) : Word := joinBytes 0xFF n

/-- The byte whose bit `i` is `b` and whose other bits are 0. -/
def bitAt (b : Bool) (i : Nat) : Byte := if b then (1 : Byte) <<< i else 0

end Sys2Proof.Machine
end

