-- ==== Sys2Proof/WellFormed.lean ====
section
/-! DEFINITION. Which terms of Instr are instructions. Every immediate has the exact width of its encoding, so the one
check is that the prefix byte is no instruction by itself (30_encoding R134; log 6). -/

namespace Sys2Proof

/-- Whether `i` is a whole instruction (30_encoding R134, 46_system R305). -/
def Instr.wellFormed (i : Instr) : Bool := decide (i ≠ .prefixCb)

end Sys2Proof
end

