-- ==== Sys2Proof/Decode.lean ====
section
/-! DEFINITION. The decoder, from the two opcode tables of 30_encoding (R130, R132, R135), total on any bytes, and after
it the encoder. -/

namespace Sys2Proof

open Machine (loByte hiByte joinBytes)

/-- A cell of the primary table: an instruction of one byte, one with a byte or a word of immediate, or the prefix 0xCB
(30_encoding R121, R134). -/
inductive Entry where
  | op (i : Instr)
  | imm8 (f : Byte → Instr)
  | imm16 (f : Word → Instr)
  | cb

/-- Why a list of bytes begins no instruction. -/
inductive DecodeError where
  /-- No byte at all. -/
  | noBytes
  /-- Fewer bytes than the opcode calls for. -/
  | truncated
  deriving DecidableEq, Repr

/-- Opcodes 0x00 to 0x0F (30_encoding R130, R132). -/
def primaryRow0 : List Entry :=
  [.op .nop, .imm16 .ldBcD16, .op .ldIndBcA, .op .incBc,
   .op .incB, .op .decB, .imm8 .ldBD8, .op .rlca,
   .imm16 .ldIndA16Sp, .op .addHlBc, .op .ldAIndBc, .op .decBc,
   .op .incC, .op .decC, .imm8 .ldCD8, .op .rrca]

/-- Opcodes 0x10 to 0x1F (30_encoding R130, R132). -/
def primaryRow1 : List Entry :=
  [.imm8 .stop, .imm16 .ldDeD16, .op .ldIndDeA, .op .incDe,
   .op .incD, .op .decD, .imm8 .ldDD8, .op .rla,
   .imm8 .jrE8, .op .addHlDe, .op .ldAIndDe, .op .decDe,
   .op .incE, .op .decE, .imm8 .ldED8, .op .rra]

/-- Opcodes 0x20 to 0x2F (30_encoding R130, R132). -/
def primaryRow2 : List Entry :=
  [.imm8 .jrNzE8, .imm16 .ldHlD16, .op .ldIndHlIncA, .op .incHl,
   .op .incH, .op .decH, .imm8 .ldHD8, .op .daa,
   .imm8 .jrZE8, .op .addHlHl, .op .ldAIndHlInc, .op .decHl,
   .op .incL, .op .decL, .imm8 .ldLD8, .op .cpl]

/-- Opcodes 0x30 to 0x3F (30_encoding R130, R132). -/
def primaryRow3 : List Entry :=
  [.imm8 .jrNcE8, .imm16 .ldSpD16, .op .ldIndHlDecA, .op .incSp,
   .op .incIndHl, .op .decIndHl, .imm8 .ldIndHlD8, .op .scf,
   .imm8 .jrCE8, .op .addHlSp, .op .ldAIndHlDec, .op .decSp,
   .op .incA, .op .decA, .imm8 .ldAD8, .op .ccf]

/-- Opcodes 0x40 to 0x4F (30_encoding R130, R132). -/
def primaryRow4 : List Entry :=
  [.op .ldBB, .op .ldBC, .op .ldBD, .op .ldBE,
   .op .ldBH, .op .ldBL, .op .ldBIndHl, .op .ldBA,
   .op .ldCB, .op .ldCC, .op .ldCD, .op .ldCE,
   .op .ldCH, .op .ldCL, .op .ldCIndHl, .op .ldCA]

/-- Opcodes 0x50 to 0x5F (30_encoding R130, R132). -/
def primaryRow5 : List Entry :=
  [.op .ldDB, .op .ldDC, .op .ldDD, .op .ldDE,
   .op .ldDH, .op .ldDL, .op .ldDIndHl, .op .ldDA,
   .op .ldEB, .op .ldEC, .op .ldED, .op .ldEE,
   .op .ldEH, .op .ldEL, .op .ldEIndHl, .op .ldEA]

/-- Opcodes 0x60 to 0x6F (30_encoding R130, R132). -/
def primaryRow6 : List Entry :=
  [.op .ldHB, .op .ldHC, .op .ldHD, .op .ldHE,
   .op .ldHH, .op .ldHL, .op .ldHIndHl, .op .ldHA,
   .op .ldLB, .op .ldLC, .op .ldLD, .op .ldLE,
   .op .ldLH, .op .ldLL, .op .ldLIndHl, .op .ldLA]

/-- Opcodes 0x70 to 0x7F (30_encoding R130, R132). -/
def primaryRow7 : List Entry :=
  [.op .ldIndHlB, .op .ldIndHlC, .op .ldIndHlD, .op .ldIndHlE,
   .op .ldIndHlH, .op .ldIndHlL, .op .halt, .op .ldIndHlA,
   .op .ldAB, .op .ldAC, .op .ldAD, .op .ldAE,
   .op .ldAH, .op .ldAL, .op .ldAIndHl, .op .ldAA]

/-- Opcodes 0x80 to 0x8F (30_encoding R130, R132). -/
def primaryRow8 : List Entry :=
  [.op .addAB, .op .addAC, .op .addAD, .op .addAE,
   .op .addAH, .op .addAL, .op .addAIndHl, .op .addAA,
   .op .adcAB, .op .adcAC, .op .adcAD, .op .adcAE,
   .op .adcAH, .op .adcAL, .op .adcAIndHl, .op .adcAA]

/-- Opcodes 0x90 to 0x9F (30_encoding R130, R132). -/
def primaryRow9 : List Entry :=
  [.op .subB, .op .subC, .op .subD, .op .subE,
   .op .subH, .op .subL, .op .subIndHl, .op .subA,
   .op .sbcAB, .op .sbcAC, .op .sbcAD, .op .sbcAE,
   .op .sbcAH, .op .sbcAL, .op .sbcAIndHl, .op .sbcAA]

/-- Opcodes 0xA0 to 0xAF (30_encoding R130, R132). -/
def primaryRowA : List Entry :=
  [.op .andB, .op .andC, .op .andD, .op .andE,
   .op .andH, .op .andL, .op .andIndHl, .op .andA,
   .op .xorB, .op .xorC, .op .xorD, .op .xorE,
   .op .xorH, .op .xorL, .op .xorIndHl, .op .xorA]

/-- Opcodes 0xB0 to 0xBF (30_encoding R130, R132). -/
def primaryRowB : List Entry :=
  [.op .orB, .op .orC, .op .orD, .op .orE,
   .op .orH, .op .orL, .op .orIndHl, .op .orA,
   .op .cpB, .op .cpC, .op .cpD, .op .cpE,
   .op .cpH, .op .cpL, .op .cpIndHl, .op .cpA]

/-- Opcodes 0xC0 to 0xCF (30_encoding R130, R132). -/
def primaryRowC : List Entry :=
  [.op .retNz, .op .popBc, .imm16 .jpNzA16, .imm16 .jpA16,
   .imm16 .callNzA16, .op .pushBc, .imm8 .addAD8, .op .rst00,
   .op .retZ, .op .ret, .imm16 .jpZA16, .cb,
   .imm16 .callZA16, .imm16 .callA16, .imm8 .adcAD8, .op .rst08]

/-- Opcodes 0xD0 to 0xDF (30_encoding R130, R132). -/
def primaryRowD : List Entry :=
  [.op .retNc, .op .popDe, .imm16 .jpNcA16, .op .illegalD3,
   .imm16 .callNcA16, .op .pushDe, .imm8 .subD8, .op .rst10,
   .op .retC, .op .reti, .imm16 .jpCA16, .op .illegalDB,
   .imm16 .callCA16, .op .illegalDD, .imm8 .sbcAD8, .op .rst18]

/-- Opcodes 0xE0 to 0xEF (30_encoding R130, R132). -/
def primaryRowE : List Entry :=
  [.imm8 .ldhIndA8A, .op .popHl, .op .ldhIndCA, .op .illegalE3,
   .op .illegalE4, .op .pushHl, .imm8 .andD8, .op .rst20,
   .imm8 .addSpE8, .op .jpHl, .imm16 .ldIndA16A, .op .illegalEB,
   .op .illegalEC, .op .illegalED, .imm8 .xorD8, .op .rst28]

/-- Opcodes 0xF0 to 0xFF (30_encoding R130, R132). -/
def primaryRowF : List Entry :=
  [.imm8 .ldhAIndA8, .op .popAf, .op .ldhAIndC, .op .di,
   .op .illegalF4, .op .pushAf, .imm8 .orD8, .op .rst30,
   .imm8 .ldHlSpE8, .op .ldSpHl, .imm16 .ldAIndA16, .op .ei,
   .op .illegalFC, .op .illegalFD, .imm8 .cpD8, .op .rst38]

/-- The primary table as the grid of 30_encoding R132: row = high hex digit. -/
def primaryRows : List (List Entry) :=
  [primaryRow0, primaryRow1, primaryRow2, primaryRow3, primaryRow4, primaryRow5, primaryRow6, primaryRow7, primaryRow8, primaryRow9, primaryRowA, primaryRowB, primaryRowC, primaryRowD, primaryRowE, primaryRowF]

/-- The rows of the secondary table for second bytes 0x00 to 0x3F, the rotates and shifts (30_encoding R135). -/
def secondaryRows0 : List (List Instr) :=
  [[.rlcB, .rlcC, .rlcD, .rlcE, .rlcH, .rlcL, .rlcIndHl, .rlcA],
   [.rrcB, .rrcC, .rrcD, .rrcE, .rrcH, .rrcL, .rrcIndHl, .rrcA],
   [.rlB, .rlC, .rlD, .rlE, .rlH, .rlL, .rlIndHl, .rlA],
   [.rrB, .rrC, .rrD, .rrE, .rrH, .rrL, .rrIndHl, .rrA],
   [.slaB, .slaC, .slaD, .slaE, .slaH, .slaL, .slaIndHl, .slaA],
   [.sraB, .sraC, .sraD, .sraE, .sraH, .sraL, .sraIndHl, .sraA],
   [.swapB, .swapC, .swapD, .swapE, .swapH, .swapL, .swapIndHl, .swapA],
   [.srlB, .srlC, .srlD, .srlE, .srlH, .srlL, .srlIndHl, .srlA]]

/-- The rows of the secondary table for second bytes 0x40 to 0x7F, BIT (30_encoding R135). -/
def secondaryRows1 : List (List Instr) :=
  [[.bit0B, .bit0C, .bit0D, .bit0E, .bit0H, .bit0L, .bit0IndHl, .bit0A],
   [.bit1B, .bit1C, .bit1D, .bit1E, .bit1H, .bit1L, .bit1IndHl, .bit1A],
   [.bit2B, .bit2C, .bit2D, .bit2E, .bit2H, .bit2L, .bit2IndHl, .bit2A],
   [.bit3B, .bit3C, .bit3D, .bit3E, .bit3H, .bit3L, .bit3IndHl, .bit3A],
   [.bit4B, .bit4C, .bit4D, .bit4E, .bit4H, .bit4L, .bit4IndHl, .bit4A],
   [.bit5B, .bit5C, .bit5D, .bit5E, .bit5H, .bit5L, .bit5IndHl, .bit5A],
   [.bit6B, .bit6C, .bit6D, .bit6E, .bit6H, .bit6L, .bit6IndHl, .bit6A],
   [.bit7B, .bit7C, .bit7D, .bit7E, .bit7H, .bit7L, .bit7IndHl, .bit7A]]

/-- The rows of the secondary table for second bytes 0x80 to 0xBF, RES (30_encoding R135). -/
def secondaryRows2 : List (List Instr) :=
  [[.res0B, .res0C, .res0D, .res0E, .res0H, .res0L, .res0IndHl, .res0A],
   [.res1B, .res1C, .res1D, .res1E, .res1H, .res1L, .res1IndHl, .res1A],
   [.res2B, .res2C, .res2D, .res2E, .res2H, .res2L, .res2IndHl, .res2A],
   [.res3B, .res3C, .res3D, .res3E, .res3H, .res3L, .res3IndHl, .res3A],
   [.res4B, .res4C, .res4D, .res4E, .res4H, .res4L, .res4IndHl, .res4A],
   [.res5B, .res5C, .res5D, .res5E, .res5H, .res5L, .res5IndHl, .res5A],
   [.res6B, .res6C, .res6D, .res6E, .res6H, .res6L, .res6IndHl, .res6A],
   [.res7B, .res7C, .res7D, .res7E, .res7H, .res7L, .res7IndHl, .res7A]]

/-- The rows of the secondary table for second bytes 0xC0 to 0xFF, SET (30_encoding R135). -/
def secondaryRows3 : List (List Instr) :=
  [[.set0B, .set0C, .set0D, .set0E, .set0H, .set0L, .set0IndHl, .set0A],
   [.set1B, .set1C, .set1D, .set1E, .set1H, .set1L, .set1IndHl, .set1A],
   [.set2B, .set2C, .set2D, .set2E, .set2H, .set2L, .set2IndHl, .set2A],
   [.set3B, .set3C, .set3D, .set3E, .set3H, .set3L, .set3IndHl, .set3A],
   [.set4B, .set4C, .set4D, .set4E, .set4H, .set4L, .set4IndHl, .set4A],
   [.set5B, .set5C, .set5D, .set5E, .set5H, .set5L, .set5IndHl, .set5A],
   [.set6B, .set6C, .set6D, .set6E, .set6H, .set6L, .set6IndHl, .set6A],
   [.set7B, .set7C, .set7D, .set7E, .set7H, .set7L, .set7IndHl, .set7A]]

/-- The cell of the primary table for an opcode byte (30_encoding R130). -/
def primaryEntry (op : Byte) : Entry := (primaryRows.getD (op.toNat / 16) []).getD (op.toNat % 16) .cb

/-- The secondary table, a row for each `op2[7:3]` (30_encoding R135). -/
def secondaryRows : List (List Instr) := secondaryRows0 ++ secondaryRows1 ++ secondaryRows2 ++ secondaryRows3

/-- The instruction of the secondary table for a second byte (30_encoding R135). -/
def secondaryInstr (op2 : Byte) : Instr := (secondaryRows.getD (op2.toNat / 8) []).getD (op2.toNat % 8) .prefixCb

/-- The length in bytes, which the first byte alone decides (30_encoding R120, R121). -/
def Entry.length : Entry → Nat
  | .op _ => 1
  | .imm8 _ => 2
  | .imm16 _ => 3
  | .cb => 2

/-- The instruction of a cell, given the two bytes after the opcode; a word has its low byte first (30_encoding R122). -/
def Entry.build (b1 b2 : Byte) : Entry → Instr
  | .op i => i
  | .imm8 f => f b1
  | .imm16 f => f (joinBytes b2 b1)
  | .cb => secondaryInstr b1

/-- The length of the instruction whose opcode is `b0` (30_encoding R120). -/
def instrLength (b0 : Byte) : Nat := (primaryEntry b0).length

/-- The instruction that begins with the bytes `b0 b1 b2`; bytes it does not have are not looked at. -/
def decodeBytes (b0 b1 b2 : Byte) : Instr := (primaryEntry b0).build b1 b2

/-- Decodes the instruction a list of bytes begins with, and gives the bytes after it. -/
def decode (bytes : List Byte) : Except DecodeError (Instr × List Byte) :=
  match bytes with
  | [] => .error .noBytes
  | b0 :: rest =>
    if rest.length + 1 < instrLength b0 then .error .truncated
    else .ok (decodeBytes b0 (rest.getD 0 0) (rest.getD 1 0), bytes.drop (instrLength b0))

/-- The bytes of an instruction, from the same tables (30_encoding R130, R135); 16-bit immediates low byte first (R121).
`prefixCb` is the prefix byte alone. -/
def encode : Instr → List Byte
  | .nop => [0x00]
  | .ldBcD16 d16 => [0x01, loByte d16, hiByte d16]
  | .ldIndBcA => [0x02]
  | .incBc => [0x03]
  | .incB => [0x04]
  | .decB => [0x05]
  | .ldBD8 d8 => [0x06, d8]
  | .rlca => [0x07]
  | .ldIndA16Sp a16 => [0x08, loByte a16, hiByte a16]
  | .addHlBc => [0x09]
  | .ldAIndBc => [0x0A]
  | .decBc => [0x0B]
  | .incC => [0x0C]
  | .decC => [0x0D]
  | .ldCD8 d8 => [0x0E, d8]
  | .rrca => [0x0F]
  | .stop pad => [0x10, pad]
  | .ldDeD16 d16 => [0x11, loByte d16, hiByte d16]
  | .ldIndDeA => [0x12]
  | .incDe => [0x13]
  | .incD => [0x14]
  | .decD => [0x15]
  | .ldDD8 d8 => [0x16, d8]
  | .rla => [0x17]
  | .jrE8 e8 => [0x18, e8]
  | .addHlDe => [0x19]
  | .ldAIndDe => [0x1A]
  | .decDe => [0x1B]
  | .incE => [0x1C]
  | .decE => [0x1D]
  | .ldED8 d8 => [0x1E, d8]
  | .rra => [0x1F]
  | .jrNzE8 e8 => [0x20, e8]
  | .ldHlD16 d16 => [0x21, loByte d16, hiByte d16]
  | .ldIndHlIncA => [0x22]
  | .incHl => [0x23]
  | .incH => [0x24]
  | .decH => [0x25]
  | .ldHD8 d8 => [0x26, d8]
  | .daa => [0x27]
  | .jrZE8 e8 => [0x28, e8]
  | .addHlHl => [0x29]
  | .ldAIndHlInc => [0x2A]
  | .decHl => [0x2B]
  | .incL => [0x2C]
  | .decL => [0x2D]
  | .ldLD8 d8 => [0x2E, d8]
  | .cpl => [0x2F]
  | .jrNcE8 e8 => [0x30, e8]
  | .ldSpD16 d16 => [0x31, loByte d16, hiByte d16]
  | .ldIndHlDecA => [0x32]
  | .incSp => [0x33]
  | .incIndHl => [0x34]
  | .decIndHl => [0x35]
  | .ldIndHlD8 d8 => [0x36, d8]
  | .scf => [0x37]
  | .jrCE8 e8 => [0x38, e8]
  | .addHlSp => [0x39]
  | .ldAIndHlDec => [0x3A]
  | .decSp => [0x3B]
  | .incA => [0x3C]
  | .decA => [0x3D]
  | .ldAD8 d8 => [0x3E, d8]
  | .ccf => [0x3F]
  | .ldBB => [0x40]
  | .ldBC => [0x41]
  | .ldBD => [0x42]
  | .ldBE => [0x43]
  | .ldBH => [0x44]
  | .ldBL => [0x45]
  | .ldBIndHl => [0x46]
  | .ldBA => [0x47]
  | .ldCB => [0x48]
  | .ldCC => [0x49]
  | .ldCD => [0x4A]
  | .ldCE => [0x4B]
  | .ldCH => [0x4C]
  | .ldCL => [0x4D]
  | .ldCIndHl => [0x4E]
  | .ldCA => [0x4F]
  | .ldDB => [0x50]
  | .ldDC => [0x51]
  | .ldDD => [0x52]
  | .ldDE => [0x53]
  | .ldDH => [0x54]
  | .ldDL => [0x55]
  | .ldDIndHl => [0x56]
  | .ldDA => [0x57]
  | .ldEB => [0x58]
  | .ldEC => [0x59]
  | .ldED => [0x5A]
  | .ldEE => [0x5B]
  | .ldEH => [0x5C]
  | .ldEL => [0x5D]
  | .ldEIndHl => [0x5E]
  | .ldEA => [0x5F]
  | .ldHB => [0x60]
  | .ldHC => [0x61]
  | .ldHD => [0x62]
  | .ldHE => [0x63]
  | .ldHH => [0x64]
  | .ldHL => [0x65]
  | .ldHIndHl => [0x66]
  | .ldHA => [0x67]
  | .ldLB => [0x68]
  | .ldLC => [0x69]
  | .ldLD => [0x6A]
  | .ldLE => [0x6B]
  | .ldLH => [0x6C]
  | .ldLL => [0x6D]
  | .ldLIndHl => [0x6E]
  | .ldLA => [0x6F]
  | .ldIndHlB => [0x70]
  | .ldIndHlC => [0x71]
  | .ldIndHlD => [0x72]
  | .ldIndHlE => [0x73]
  | .ldIndHlH => [0x74]
  | .ldIndHlL => [0x75]
  | .halt => [0x76]
  | .ldIndHlA => [0x77]
  | .ldAB => [0x78]
  | .ldAC => [0x79]
  | .ldAD => [0x7A]
  | .ldAE => [0x7B]
  | .ldAH => [0x7C]
  | .ldAL => [0x7D]
  | .ldAIndHl => [0x7E]
  | .ldAA => [0x7F]
  | .addAB => [0x80]
  | .addAC => [0x81]
  | .addAD => [0x82]
  | .addAE => [0x83]
  | .addAH => [0x84]
  | .addAL => [0x85]
  | .addAIndHl => [0x86]
  | .addAA => [0x87]
  | .adcAB => [0x88]
  | .adcAC => [0x89]
  | .adcAD => [0x8A]
  | .adcAE => [0x8B]
  | .adcAH => [0x8C]
  | .adcAL => [0x8D]
  | .adcAIndHl => [0x8E]
  | .adcAA => [0x8F]
  | .subB => [0x90]
  | .subC => [0x91]
  | .subD => [0x92]
  | .subE => [0x93]
  | .subH => [0x94]
  | .subL => [0x95]
  | .subIndHl => [0x96]
  | .subA => [0x97]
  | .sbcAB => [0x98]
  | .sbcAC => [0x99]
  | .sbcAD => [0x9A]
  | .sbcAE => [0x9B]
  | .sbcAH => [0x9C]
  | .sbcAL => [0x9D]
  | .sbcAIndHl => [0x9E]
  | .sbcAA => [0x9F]
  | .andB => [0xA0]
  | .andC => [0xA1]
  | .andD => [0xA2]
  | .andE => [0xA3]
  | .andH => [0xA4]
  | .andL => [0xA5]
  | .andIndHl => [0xA6]
  | .andA => [0xA7]
  | .xorB => [0xA8]
  | .xorC => [0xA9]
  | .xorD => [0xAA]
  | .xorE => [0xAB]
  | .xorH => [0xAC]
  | .xorL => [0xAD]
  | .xorIndHl => [0xAE]
  | .xorA => [0xAF]
  | .orB => [0xB0]
  | .orC => [0xB1]
  | .orD => [0xB2]
  | .orE => [0xB3]
  | .orH => [0xB4]
  | .orL => [0xB5]
  | .orIndHl => [0xB6]
  | .orA => [0xB7]
  | .cpB => [0xB8]
  | .cpC => [0xB9]
  | .cpD => [0xBA]
  | .cpE => [0xBB]
  | .cpH => [0xBC]
  | .cpL => [0xBD]
  | .cpIndHl => [0xBE]
  | .cpA => [0xBF]
  | .retNz => [0xC0]
  | .popBc => [0xC1]
  | .jpNzA16 a16 => [0xC2, loByte a16, hiByte a16]
  | .jpA16 a16 => [0xC3, loByte a16, hiByte a16]
  | .callNzA16 a16 => [0xC4, loByte a16, hiByte a16]
  | .pushBc => [0xC5]
  | .addAD8 d8 => [0xC6, d8]
  | .rst00 => [0xC7]
  | .retZ => [0xC8]
  | .ret => [0xC9]
  | .jpZA16 a16 => [0xCA, loByte a16, hiByte a16]
  | .prefixCb => [0xCB]
  | .callZA16 a16 => [0xCC, loByte a16, hiByte a16]
  | .callA16 a16 => [0xCD, loByte a16, hiByte a16]
  | .adcAD8 d8 => [0xCE, d8]
  | .rst08 => [0xCF]
  | .retNc => [0xD0]
  | .popDe => [0xD1]
  | .jpNcA16 a16 => [0xD2, loByte a16, hiByte a16]
  | .illegalD3 => [0xD3]
  | .callNcA16 a16 => [0xD4, loByte a16, hiByte a16]
  | .pushDe => [0xD5]
  | .subD8 d8 => [0xD6, d8]
  | .rst10 => [0xD7]
  | .retC => [0xD8]
  | .reti => [0xD9]
  | .jpCA16 a16 => [0xDA, loByte a16, hiByte a16]
  | .illegalDB => [0xDB]
  | .callCA16 a16 => [0xDC, loByte a16, hiByte a16]
  | .illegalDD => [0xDD]
  | .sbcAD8 d8 => [0xDE, d8]
  | .rst18 => [0xDF]
  | .ldhIndA8A a8 => [0xE0, a8]
  | .popHl => [0xE1]
  | .ldhIndCA => [0xE2]
  | .illegalE3 => [0xE3]
  | .illegalE4 => [0xE4]
  | .pushHl => [0xE5]
  | .andD8 d8 => [0xE6, d8]
  | .rst20 => [0xE7]
  | .addSpE8 e8 => [0xE8, e8]
  | .jpHl => [0xE9]
  | .ldIndA16A a16 => [0xEA, loByte a16, hiByte a16]
  | .illegalEB => [0xEB]
  | .illegalEC => [0xEC]
  | .illegalED => [0xED]
  | .xorD8 d8 => [0xEE, d8]
  | .rst28 => [0xEF]
  | .ldhAIndA8 a8 => [0xF0, a8]
  | .popAf => [0xF1]
  | .ldhAIndC => [0xF2]
  | .di => [0xF3]
  | .illegalF4 => [0xF4]
  | .pushAf => [0xF5]
  | .orD8 d8 => [0xF6, d8]
  | .rst30 => [0xF7]
  | .ldHlSpE8 e8 => [0xF8, e8]
  | .ldSpHl => [0xF9]
  | .ldAIndA16 a16 => [0xFA, loByte a16, hiByte a16]
  | .ei => [0xFB]
  | .illegalFC => [0xFC]
  | .illegalFD => [0xFD]
  | .cpD8 d8 => [0xFE, d8]
  | .rst38 => [0xFF]
  | .rlcB => [0xCB, 0x00]
  | .rlcC => [0xCB, 0x01]
  | .rlcD => [0xCB, 0x02]
  | .rlcE => [0xCB, 0x03]
  | .rlcH => [0xCB, 0x04]
  | .rlcL => [0xCB, 0x05]
  | .rlcIndHl => [0xCB, 0x06]
  | .rlcA => [0xCB, 0x07]
  | .rrcB => [0xCB, 0x08]
  | .rrcC => [0xCB, 0x09]
  | .rrcD => [0xCB, 0x0A]
  | .rrcE => [0xCB, 0x0B]
  | .rrcH => [0xCB, 0x0C]
  | .rrcL => [0xCB, 0x0D]
  | .rrcIndHl => [0xCB, 0x0E]
  | .rrcA => [0xCB, 0x0F]
  | .rlB => [0xCB, 0x10]
  | .rlC => [0xCB, 0x11]
  | .rlD => [0xCB, 0x12]
  | .rlE => [0xCB, 0x13]
  | .rlH => [0xCB, 0x14]
  | .rlL => [0xCB, 0x15]
  | .rlIndHl => [0xCB, 0x16]
  | .rlA => [0xCB, 0x17]
  | .rrB => [0xCB, 0x18]
  | .rrC => [0xCB, 0x19]
  | .rrD => [0xCB, 0x1A]
  | .rrE => [0xCB, 0x1B]
  | .rrH => [0xCB, 0x1C]
  | .rrL => [0xCB, 0x1D]
  | .rrIndHl => [0xCB, 0x1E]
  | .rrA => [0xCB, 0x1F]
  | .slaB => [0xCB, 0x20]
  | .slaC => [0xCB, 0x21]
  | .slaD => [0xCB, 0x22]
  | .slaE => [0xCB, 0x23]
  | .slaH => [0xCB, 0x24]
  | .slaL => [0xCB, 0x25]
  | .slaIndHl => [0xCB, 0x26]
  | .slaA => [0xCB, 0x27]
  | .sraB => [0xCB, 0x28]
  | .sraC => [0xCB, 0x29]
  | .sraD => [0xCB, 0x2A]
  | .sraE => [0xCB, 0x2B]
  | .sraH => [0xCB, 0x2C]
  | .sraL => [0xCB, 0x2D]
  | .sraIndHl => [0xCB, 0x2E]
  | .sraA => [0xCB, 0x2F]
  | .swapB => [0xCB, 0x30]
  | .swapC => [0xCB, 0x31]
  | .swapD => [0xCB, 0x32]
  | .swapE => [0xCB, 0x33]
  | .swapH => [0xCB, 0x34]
  | .swapL => [0xCB, 0x35]
  | .swapIndHl => [0xCB, 0x36]
  | .swapA => [0xCB, 0x37]
  | .srlB => [0xCB, 0x38]
  | .srlC => [0xCB, 0x39]
  | .srlD => [0xCB, 0x3A]
  | .srlE => [0xCB, 0x3B]
  | .srlH => [0xCB, 0x3C]
  | .srlL => [0xCB, 0x3D]
  | .srlIndHl => [0xCB, 0x3E]
  | .srlA => [0xCB, 0x3F]
  | .bit0B => [0xCB, 0x40]
  | .bit0C => [0xCB, 0x41]
  | .bit0D => [0xCB, 0x42]
  | .bit0E => [0xCB, 0x43]
  | .bit0H => [0xCB, 0x44]
  | .bit0L => [0xCB, 0x45]
  | .bit0IndHl => [0xCB, 0x46]
  | .bit0A => [0xCB, 0x47]
  | .bit1B => [0xCB, 0x48]
  | .bit1C => [0xCB, 0x49]
  | .bit1D => [0xCB, 0x4A]
  | .bit1E => [0xCB, 0x4B]
  | .bit1H => [0xCB, 0x4C]
  | .bit1L => [0xCB, 0x4D]
  | .bit1IndHl => [0xCB, 0x4E]
  | .bit1A => [0xCB, 0x4F]
  | .bit2B => [0xCB, 0x50]
  | .bit2C => [0xCB, 0x51]
  | .bit2D => [0xCB, 0x52]
  | .bit2E => [0xCB, 0x53]
  | .bit2H => [0xCB, 0x54]
  | .bit2L => [0xCB, 0x55]
  | .bit2IndHl => [0xCB, 0x56]
  | .bit2A => [0xCB, 0x57]
  | .bit3B => [0xCB, 0x58]
  | .bit3C => [0xCB, 0x59]
  | .bit3D => [0xCB, 0x5A]
  | .bit3E => [0xCB, 0x5B]
  | .bit3H => [0xCB, 0x5C]
  | .bit3L => [0xCB, 0x5D]
  | .bit3IndHl => [0xCB, 0x5E]
  | .bit3A => [0xCB, 0x5F]
  | .bit4B => [0xCB, 0x60]
  | .bit4C => [0xCB, 0x61]
  | .bit4D => [0xCB, 0x62]
  | .bit4E => [0xCB, 0x63]
  | .bit4H => [0xCB, 0x64]
  | .bit4L => [0xCB, 0x65]
  | .bit4IndHl => [0xCB, 0x66]
  | .bit4A => [0xCB, 0x67]
  | .bit5B => [0xCB, 0x68]
  | .bit5C => [0xCB, 0x69]
  | .bit5D => [0xCB, 0x6A]
  | .bit5E => [0xCB, 0x6B]
  | .bit5H => [0xCB, 0x6C]
  | .bit5L => [0xCB, 0x6D]
  | .bit5IndHl => [0xCB, 0x6E]
  | .bit5A => [0xCB, 0x6F]
  | .bit6B => [0xCB, 0x70]
  | .bit6C => [0xCB, 0x71]
  | .bit6D => [0xCB, 0x72]
  | .bit6E => [0xCB, 0x73]
  | .bit6H => [0xCB, 0x74]
  | .bit6L => [0xCB, 0x75]
  | .bit6IndHl => [0xCB, 0x76]
  | .bit6A => [0xCB, 0x77]
  | .bit7B => [0xCB, 0x78]
  | .bit7C => [0xCB, 0x79]
  | .bit7D => [0xCB, 0x7A]
  | .bit7E => [0xCB, 0x7B]
  | .bit7H => [0xCB, 0x7C]
  | .bit7L => [0xCB, 0x7D]
  | .bit7IndHl => [0xCB, 0x7E]
  | .bit7A => [0xCB, 0x7F]
  | .res0B => [0xCB, 0x80]
  | .res0C => [0xCB, 0x81]
  | .res0D => [0xCB, 0x82]
  | .res0E => [0xCB, 0x83]
  | .res0H => [0xCB, 0x84]
  | .res0L => [0xCB, 0x85]
  | .res0IndHl => [0xCB, 0x86]
  | .res0A => [0xCB, 0x87]
  | .res1B => [0xCB, 0x88]
  | .res1C => [0xCB, 0x89]
  | .res1D => [0xCB, 0x8A]
  | .res1E => [0xCB, 0x8B]
  | .res1H => [0xCB, 0x8C]
  | .res1L => [0xCB, 0x8D]
  | .res1IndHl => [0xCB, 0x8E]
  | .res1A => [0xCB, 0x8F]
  | .res2B => [0xCB, 0x90]
  | .res2C => [0xCB, 0x91]
  | .res2D => [0xCB, 0x92]
  | .res2E => [0xCB, 0x93]
  | .res2H => [0xCB, 0x94]
  | .res2L => [0xCB, 0x95]
  | .res2IndHl => [0xCB, 0x96]
  | .res2A => [0xCB, 0x97]
  | .res3B => [0xCB, 0x98]
  | .res3C => [0xCB, 0x99]
  | .res3D => [0xCB, 0x9A]
  | .res3E => [0xCB, 0x9B]
  | .res3H => [0xCB, 0x9C]
  | .res3L => [0xCB, 0x9D]
  | .res3IndHl => [0xCB, 0x9E]
  | .res3A => [0xCB, 0x9F]
  | .res4B => [0xCB, 0xA0]
  | .res4C => [0xCB, 0xA1]
  | .res4D => [0xCB, 0xA2]
  | .res4E => [0xCB, 0xA3]
  | .res4H => [0xCB, 0xA4]
  | .res4L => [0xCB, 0xA5]
  | .res4IndHl => [0xCB, 0xA6]
  | .res4A => [0xCB, 0xA7]
  | .res5B => [0xCB, 0xA8]
  | .res5C => [0xCB, 0xA9]
  | .res5D => [0xCB, 0xAA]
  | .res5E => [0xCB, 0xAB]
  | .res5H => [0xCB, 0xAC]
  | .res5L => [0xCB, 0xAD]
  | .res5IndHl => [0xCB, 0xAE]
  | .res5A => [0xCB, 0xAF]
  | .res6B => [0xCB, 0xB0]
  | .res6C => [0xCB, 0xB1]
  | .res6D => [0xCB, 0xB2]
  | .res6E => [0xCB, 0xB3]
  | .res6H => [0xCB, 0xB4]
  | .res6L => [0xCB, 0xB5]
  | .res6IndHl => [0xCB, 0xB6]
  | .res6A => [0xCB, 0xB7]
  | .res7B => [0xCB, 0xB8]
  | .res7C => [0xCB, 0xB9]
  | .res7D => [0xCB, 0xBA]
  | .res7E => [0xCB, 0xBB]
  | .res7H => [0xCB, 0xBC]
  | .res7L => [0xCB, 0xBD]
  | .res7IndHl => [0xCB, 0xBE]
  | .res7A => [0xCB, 0xBF]
  | .set0B => [0xCB, 0xC0]
  | .set0C => [0xCB, 0xC1]
  | .set0D => [0xCB, 0xC2]
  | .set0E => [0xCB, 0xC3]
  | .set0H => [0xCB, 0xC4]
  | .set0L => [0xCB, 0xC5]
  | .set0IndHl => [0xCB, 0xC6]
  | .set0A => [0xCB, 0xC7]
  | .set1B => [0xCB, 0xC8]
  | .set1C => [0xCB, 0xC9]
  | .set1D => [0xCB, 0xCA]
  | .set1E => [0xCB, 0xCB]
  | .set1H => [0xCB, 0xCC]
  | .set1L => [0xCB, 0xCD]
  | .set1IndHl => [0xCB, 0xCE]
  | .set1A => [0xCB, 0xCF]
  | .set2B => [0xCB, 0xD0]
  | .set2C => [0xCB, 0xD1]
  | .set2D => [0xCB, 0xD2]
  | .set2E => [0xCB, 0xD3]
  | .set2H => [0xCB, 0xD4]
  | .set2L => [0xCB, 0xD5]
  | .set2IndHl => [0xCB, 0xD6]
  | .set2A => [0xCB, 0xD7]
  | .set3B => [0xCB, 0xD8]
  | .set3C => [0xCB, 0xD9]
  | .set3D => [0xCB, 0xDA]
  | .set3E => [0xCB, 0xDB]
  | .set3H => [0xCB, 0xDC]
  | .set3L => [0xCB, 0xDD]
  | .set3IndHl => [0xCB, 0xDE]
  | .set3A => [0xCB, 0xDF]
  | .set4B => [0xCB, 0xE0]
  | .set4C => [0xCB, 0xE1]
  | .set4D => [0xCB, 0xE2]
  | .set4E => [0xCB, 0xE3]
  | .set4H => [0xCB, 0xE4]
  | .set4L => [0xCB, 0xE5]
  | .set4IndHl => [0xCB, 0xE6]
  | .set4A => [0xCB, 0xE7]
  | .set5B => [0xCB, 0xE8]
  | .set5C => [0xCB, 0xE9]
  | .set5D => [0xCB, 0xEA]
  | .set5E => [0xCB, 0xEB]
  | .set5H => [0xCB, 0xEC]
  | .set5L => [0xCB, 0xED]
  | .set5IndHl => [0xCB, 0xEE]
  | .set5A => [0xCB, 0xEF]
  | .set6B => [0xCB, 0xF0]
  | .set6C => [0xCB, 0xF1]
  | .set6D => [0xCB, 0xF2]
  | .set6E => [0xCB, 0xF3]
  | .set6H => [0xCB, 0xF4]
  | .set6L => [0xCB, 0xF5]
  | .set6IndHl => [0xCB, 0xF6]
  | .set6A => [0xCB, 0xF7]
  | .set7B => [0xCB, 0xF8]
  | .set7C => [0xCB, 0xF9]
  | .set7D => [0xCB, 0xFA]
  | .set7E => [0xCB, 0xFB]
  | .set7H => [0xCB, 0xFC]
  | .set7L => [0xCB, 0xFD]
  | .set7IndHl => [0xCB, 0xFE]
  | .set7A => [0xCB, 0xFF]

/-- The three bytes at the lowest addresses of an instruction whose bits are `w`, numbered as spec/opcode_table.json
numbers them: a secondary row is `byte0 * 256 + byte1` (30_encoding R140); for any other word bit 0 is the least
significant bit of the first byte (log 7). -/
def tableBytes (nbits w : Nat) : List Byte :=
  if nbits = 16 ∧ w / 256 % 256 = 0xCB then [0xCB, BitVec.ofNat 8 w, 0]
  else [BitVec.ofNat 8 w, BitVec.ofNat 8 (w / 256), BitVec.ofNat 8 (w / 65536)]

/-- The instruction the decoder reads from an instruction of `nbits` bits `w`. The row of 8 bits that is the byte 0xCB
alone is the prefix (30_encoding R140; log 6). -/
def decodeTableWord (nbits w : Nat) : Option Instr :=
  if nbits = 8 ∧ w = 0xCB then some .prefixCb
  else
    match decode (tableBytes nbits w) with
    | .ok (i, _) => some i
    | .error _ => none

end Sys2Proof
end

