-- ==== Sys2Proof/Machine/Memory.lean ====
section
/-! DEFINITION. Sparse memory: a list of (address, byte) pairs in one canonical form. It holds the five arrays of
10_state R37 at their bus addresses, and (a second list) the ROM of the cartridge. -/

namespace Sys2Proof.Machine

/-- Listed bytes; an unlisted address reads as `unlisted` gives. -/
abbrev Memory := List Host.Cell

/-- The reset contents of the plain I/O bytes, by address (20_memory R85). -/
def ioReset (a : Nat) : Byte :=
  match a with
  | 0xFF01 => 0x00 | 0xFF02 => 0x7E
  | 0xFF10 => 0x80 | 0xFF11 => 0xBF | 0xFF12 => 0xF3 | 0xFF13 => 0xFF | 0xFF14 => 0xBF
  | 0xFF16 => 0x3F | 0xFF17 => 0x00 | 0xFF18 => 0xFF | 0xFF19 => 0xBF
  | 0xFF1A => 0x7F | 0xFF1B => 0xFF | 0xFF1C => 0x9F | 0xFF1D => 0xFF | 0xFF1E => 0xBF
  | 0xFF20 => 0xFF | 0xFF21 => 0x00 | 0xFF22 => 0x00 | 0xFF23 => 0xBF
  | 0xFF24 => 0x77 | 0xFF25 => 0xF3 | 0xFF26 => 0xF1 | 0xFF50 => 0x01
  | _ => 0xFF

/-- What an unlisted address reads as: the reset contents of the array it lies in (10_state R37, 20_memory R85,
70_reset_and_hazards R461), 0x00 in the ROM (log 3). -/
def unlisted (a : Nat) : Byte := if 0xFF00 ≤ a ∧ a < 0xFF80 then ioReset a else 0x00

/-- The byte at address `a`. -/
def Memory.read : Memory → Nat → Byte
  | [], a => unlisted a
  | (k, v) :: m, a => if k = a then v else Memory.read m a

/-- Stores `v` at `a`, keeping the canonical form: the value an unlisted address reads as removes the entry. -/
def Memory.write : Memory → Nat → Byte → Memory
  | [], a, v => if v = unlisted a then [] else [(a, v)]
  | (k, w) :: m, a, v =>
    if a < k then (if v = unlisted a then (k, w) :: m else (a, v) :: (k, w) :: m)
    else if a = k then (if v = unlisted a then m else (a, v) :: m)
    else (k, w) :: Memory.write m a v

/-- The canonical form: addresses strictly rising, no entry equal to what its address reads as unlisted. -/
abbrev Memory.wf (m : Memory) : Prop :=
  m.Pairwise (fun x y => x.1 < y.1) ∧ ∀ c ∈ m, c.2 ≠ unlisted c.1

end Sys2Proof.Machine
end

