-- ==== Sys2Proof/Machine/State.lean ====
section
/-! DEFINITION. The state of CORE (10_state), the reasons a step can stop, and the state right after reset
(70_reset_and_hazards R461). Plain data throughout. -/

namespace Sys2Proof.Machine

/-- The register file, SP, PC and the two CPU control bits that make a step idle (10_state R20, R26, R28, R31, R32). -/
structure Cpu where
  a : Byte
  f : Byte
  b : Byte
  c : Byte
  d : Byte
  e : Byte
  h : Byte
  l : Byte
  sp : Word
  pc : Word
  halted : Bool
  stopped : Bool
  deriving DecidableEq, Repr

/-- InterruptState (10_state R29, R30, R33): IE, the five request bits of IF, IME and `ime_pending`. -/
structure Interrupts where
  ie : Byte
  ifl : BitVec 5
  ime : Bool
  imePending : Bool
  deriving DecidableEq, Repr

/-- TimerState (10_state R34). -/
structure Timer where
  sysCounter : Word
  tima : Byte
  tma : Byte
  tac : BitVec 3
  reloadDelay : Nat
  deriving DecidableEq, Repr

/-- The four PPU modes (10_state R35); their numbers are `PpuMode.number`. -/
inductive PpuMode where
  | hBlank
  | vBlank
  | oamSearch
  | pixelTransfer
  deriving DecidableEq, Repr

/-- A colour number or a final colour index, 0 to 3 (62_ppu R407, R432). -/
abbrev Colour := BitVec 2

/-- A frame: 144 rows, top to bottom, of 160 colour indices, left to right (62_ppu R432). -/
abbrev Frame := Vector (Vector Colour 160) 144

/-- PpuState (10_state R35), less the DMA register, which the bus owns (20_memory R70). -/
structure Ppu where
  mode : PpuMode
  ly : Byte
  dot : Nat
  lcdc : Byte
  statEnables : BitVec 4
  scy : Byte
  scx : Byte
  lyc : Byte
  bgp : Byte
  obp0 : Byte
  obp1 : Byte
  wy : Byte
  wx : Byte
  statLine : Bool
  framebuffer : Frame
  deriving DecidableEq, Repr

/-- Joypad state (10_state R39). -/
structure Joypad where
  p1Select : BitVec 2
  buttons : Byte
  deriving DecidableEq, Repr

/-- The no-banking cartridge (20_memory R67): its ROM, the listed bytes of 0x0000 to 0x7FFF. -/
structure Cart where
  rom : Memory
  deriving DecidableEq, Repr

/-- The whole machine. `inputs`, `cycles` and `frame` are the model's own: the argument values of the coming system
steps (log 1) and the two results of the last one (log 2). -/
structure State where
  cpu : Cpu
  irq : Interrupts
  timer : Timer
  ppu : Ppu
  joypad : Joypad
  dma : Byte
  mem : Memory
  cart : Cart
  inputs : List Byte
  cycles : Nat
  frame : Option Frame
  deriving DecidableEq, Repr

/-- The reasons a step stops with a fault. There are none: CORE raises no fault, ever (60_exceptions R320, log 10);
nobody raises one, which is safe with respect to the spec. -/
inductive Fault where
  deriving DecidableEq, Repr

/-- The reasons a step is refused. -/
inductive Refusal where
  /-- An instruction without a meaning in this model, by its mnemonic; raised only by an arm of `exec`. Safe. -/
  | notModelled (mnemonic : String)
  deriving DecidableEq, Repr

/-- What a meaning answers. -/
abbrev Result := Host.Outcome State Fault Refusal

/-- The machine right after reset (70_reset_and_hazards R461, 20_memory R85), with nothing in the ROM (log 3). -/
def State.reset : State where
  cpu :=
    { a := 0x01, f := 0xB0, b := 0x00, c := 0x13, d := 0x00, e := 0xD8, h := 0x01, l := 0x4D
      sp := 0xFFFE, pc := 0x0100, halted := false, stopped := false }
  irq := { ie := 0x00, ifl := 0b00001, ime := false, imePending := false }
  timer := { sysCounter := 0xABCC, tima := 0x00, tma := 0x00, tac := 0b000, reloadDelay := 0 }
  ppu :=
    { mode := .oamSearch, ly := 0, dot := 0, lcdc := 0x91, statEnables := 0b0000, scy := 0x00, scx := 0x00
      lyc := 0x00, bgp := 0xFC, obp0 := 0xFF, obp1 := 0xFF, wy := 0x00, wx := 0x00, statLine := false
      framebuffer := Vector.replicate 144 (Vector.replicate 160 0) }
  joypad := { p1Select := 0b00, buttons := 0x00 }
  dma := 0xFF
  mem := []
  cart := { rom := [] }
  inputs := []
  cycles := 0
  frame := none

end Sys2Proof.Machine
end

