-- ==== Sys2Proof/Machine/Interrupt.lean ====
section
/-! DEFINITION. The interrupt controller: the five kinds with their numbers and vectors, making a request, the pending
test and the acknowledge (60_exceptions R322 to R326). -/

namespace Sys2Proof.Machine

/-- The five interrupt kinds, highest priority first (60_exceptions R323). -/
inductive IrqKind where
  | vBlank | lcdStat | timer | serial | joypad
  deriving DecidableEq, Repr

/-- The number of a kind, its bit in IE and IF (60_exceptions R323). -/
def IrqKind.number : IrqKind → Nat
  | .vBlank => 0 | .lcdStat => 1 | .timer => 2 | .serial => 3 | .joypad => 4

/-- The vector address of a kind, `0x0040 + 8 * k` (60_exceptions R323). -/
def IrqKind.vector (k : IrqKind) : Word := BitVec.ofNat 16 (0x0040 + 8 * k.number)

/-- A device's request: `IF <- IF OR (1 << k)` (60_exceptions R322). -/
def State.request (s : State) (k : IrqKind) : State :=
  { s with irq := { s.irq with ifl := s.irq.ifl ||| (1 : BitVec 5) <<< k.number } }

/-- Makes the request when `b` holds. -/
def State.requestIf (s : State) (b : Bool) (k : IrqKind) : State := if b then s.request k else s

/-- Whether a kind is enabled and requested. -/
def Interrupts.isPending (q : Interrupts) (k : IrqKind) : Bool := q.ie.getLsbD k.number && q.ifl.getLsbD k.number

/-- `pending()`: the highest-priority kind whose enable and request bits are both set (60_exceptions R325). -/
def State.pending (s : State) : Option IrqKind :=
  [IrqKind.vBlank, .lcdStat, .timer, .serial, .joypad].find? s.irq.isPending

/-- `acknowledge(k)`: clears that kind's request bit and no other (60_exceptions R326). -/
def State.acknowledge (s : State) (k : IrqKind) : State :=
  { s with irq := { s.irq with ifl := s.irq.ifl &&& ~~~((1 : BitVec 5) <<< k.number) } }

end Sys2Proof.Machine
end

