-- ==== Sys2Proof/Machine/Joypad.lean ====
section
/-! DEFINITION. The joypad register P1 and the joypad events (20_memory R80, R81). -/

namespace Sys2Proof.Machine

/-- The four input lines, active low (20_memory R80). -/
def Joypad.lines (j : Joypad) : BitVec 4 :=
  let dir := if j.p1Select.getLsbD 0 then 0 else j.buttons.extractLsb' 0 4
  let act := if j.p1Select.getLsbD 1 then 0 else j.buttons.extractLsb' 4 4
  ~~~(dir ||| act)

/-- P1 as read: `0xC0 OR (p1_select << 4) OR lines` (20_memory R70, R80). -/
def Joypad.p1Byte (j : Joypad) : Byte := (0xC0 : Byte) ||| (j.p1Select.setWidth 8) <<< 4 ||| j.lines.setWidth 8

/-- A write to P1: `p1_select <- v[5:4]` (20_memory R70, R80). -/
def Joypad.writeP1 (j : Joypad) (v : Byte) : Joypad := { j with p1Select := v.extractLsb' 4 2 }

/-- The host's new button value, applied before the CPU step (20_memory R81, 60_exceptions R340): a selected line that
falls requests Joypad, and any button going down ends the stopped state. -/
def pressButtons (now : Byte) (s : State) : State :=
  let j : Joypad := { s.joypad with buttons := now }
  let fell := decide (s.joypad.lines &&& ~~~j.lines ≠ 0)
  let pressed := decide (now &&& ~~~s.joypad.buttons ≠ 0)
  State.requestIf { s with joypad := j, cpu := { s.cpu with stopped := s.cpu.stopped && !pressed } } fell .joypad

end Sys2Proof.Machine
end

