-- ==== Sys2Proof/Config.lean ====
section
/-! DEFINITION. The implementation parameters of 00_scope R5, at the values the spec uses in every rule and test vector
(log 5). No value is left free: the spec decides every one. -/

namespace Sys2Proof.Config

/-- Cycle units of OAM-search in a scanline (00_scope R5, 62_ppu R421). -/
def oamSearchLen : Nat := 80

/-- `PIXEL_TRANSFER_LEN` (00_scope R5, decision D29). -/
def pixelTransferLen : Nat := 172

/-- `HBLANK_LEN` = 456 - 80 - `PIXEL_TRANSFER_LEN` (00_scope R5). -/
def hblankLen : Nat := 456 - oamSearchLen - pixelTransferLen

/-- Cycle units of one scanline, and so of one line of v-blank (62_ppu R421, R422). -/
def scanlineLen : Nat := 456

/-- `MAX_SPRITES_PER_ROW` (00_scope R5, 62_ppu R451). -/
def maxSpritesPerRow : Nat := 10

/-- `HALT_IDLE_COST`, the cost of a step spent halted (00_scope R5, 60_exceptions R330). -/
def haltIdleCost : Nat := 4

/-- The cost of a step spent stopped (60_exceptions R330 point 1). -/
def stopIdleCost : Nat := 4

/-- `INT_DISPATCH_COST`, the cost of an interrupt dispatch (00_scope R5, 60_exceptions R332). -/
def intDispatchCost : Nat := 20

/-- `TIMA_RELOAD_DELAY`, the cycle units from overflow to reload (00_scope R5, 61_timer R375). -/
def timaReloadDelay : Nat := 4

/-- `UNUSABLE_READ`, what 0xFEA0 to 0xFEFF reads as (00_scope R5, 20_memory R64). -/
def unusableRead : Byte := 0xFF

/-- What the cartridge's absent external RAM reads as (20_memory R67). -/
def absentRamRead : Byte := 0xFF

/-- The cost of an illegal opcode, `ILLEGAL_OPCODE` being a 1-byte no-op (00_scope R5, 46_system R306). -/
def illegalOpcodeCost : Nat := 4

end Sys2Proof.Config
end

