-- ==== Sys2Proof/Machine/Ppu.lean ====
section
/-! DEFINITION. The PPU (62_ppu): mode numbers, the STAT signal, row compositing, the per-unit state machine,
`PPU.step`, and the write to LCDC. -/

namespace Sys2Proof.Machine

/-- The number of a mode as STAT shows it (10_state R35). -/
def PpuMode.number : PpuMode → Nat
  | .hBlank => 0 | .vBlank => 1 | .oamSearch => 2 | .pixelTransfer => 3

/-- The colour number a tile row gives: the low plane at `a`, the high plane at `a + 1`, bit `b` of both
(62_ppu R410). -/
def planePixel (m : Memory) (a b : Nat) : Colour :=
  BitVec.ofNat 2 (2 * (bit (m.read (a + 1)) b).toNat + (bit (m.read a) b).toNat)

/-- Whether pixel `x` of row `y` is a window pixel (62_ppu R450). -/
def inWindow (p : Ppu) (x y : Nat) : Bool :=
  bit p.lcdc 5 && decide (p.wy.toNat ≤ y) && decide (p.wx.toNat ≤ x + 7)

/-- The address of tile `t`, unsigned from 0x8000 or signed from 0x9000 by `LCDC[4]` (62_ppu R450). -/
def tileBase (lcdc t : Byte) : Nat :=
  if bit lcdc 4 then 0x8000 + 16 * t.toNat else ((0x9000 : Int) + 16 * sext8 t).toNat

/-- The pixel (`px`, `py`) of the layer whose tile map starts at `map` (62_ppu R450). -/
def layerPixel (lcdc : Byte) (m : Memory) (map px py : Nat) : Colour :=
  planePixel m (tileBase lcdc (m.read (map + 32 * (py / 8) + px / 8)) + 2 * (py % 8)) (7 - px % 8)

/-- `bg_colour(x, y)`: the background and window colour number (62_ppu R450). -/
def bgColour (p : Ppu) (m : Memory) (x y : Nat) : Colour :=
  if !bit p.lcdc 0 then 0
  else if inWindow p x y then
    layerPixel p.lcdc m (if bit p.lcdc 6 then 0x9C00 else 0x9800) (x + 7 - p.wx.toNat) (y - p.wy.toNat)
  else
    layerPixel p.lcdc m (if bit p.lcdc 3 then 0x9C00 else 0x9800) ((x + p.scx.toNat) % 256) ((y + p.scy.toNat) % 256)

/-- An OAM entry (62_ppu R409). -/
structure Sprite where
  y : Byte
  x : Byte
  tile : Byte
  attr : Byte
  deriving DecidableEq, Repr

/-- OAM entry `i` (62_ppu R409). -/
def oamEntry (m : Memory) (i : Nat) : Sprite where
  y := m.read (0xFE00 + 4 * i)
  x := m.read (0xFE00 + 4 * i + 1)
  tile := m.read (0xFE00 + 4 * i + 2)
  attr := m.read (0xFE00 + 4 * i + 3)

/-- The height of sprites, by `LCDC[2]` (62_ppu R451). -/
def spriteHeight (lcdc : Byte) : Nat := if bit lcdc 2 then 16 else 8

/-- Whether a sprite is on row `y`; X plays no part (62_ppu R451). -/
def Sprite.onRow (sp : Sprite) (height y : Nat) : Bool :=
  decide (sp.y.toNat ≤ y + 16) && decide (y + 16 < sp.y.toNat + height)

/-- The sprites selected for row `y`, in OAM order, at most ten (62_ppu R451). -/
def selectSprites (p : Ppu) (m : Memory) (y : Nat) : List Sprite :=
  if bit p.lcdc 1 then
    (((List.range 40).map (oamEntry m)).filter fun sp => sp.onRow (spriteHeight p.lcdc) y).take Config.maxSpritesPerRow
  else []

/-- The colour number of a selected sprite at `x`, if it covers `x` (62_ppu R452). -/
def Sprite.colourAt (sp : Sprite) (m : Memory) (height x y : Nat) : Option Colour :=
  if decide (sp.x.toNat ≤ x + 8) && decide (x + 8 < sp.x.toNat + 8) then
    let col0 := x + 8 - sp.x.toNat
    let row0 := y + 16 - sp.y.toNat
    let row := if bit sp.attr 6 then height - 1 - row0 else row0
    let col := if bit sp.attr 5 then 7 - col0 else col0
    let tile := if height = 16 then sp.tile &&& 0xFE else sp.tile
    some (planePixel m (0x8000 + 16 * tile.toNat + 2 * row) (7 - col))
  else none

/-- The sprites that show a non-transparent colour at `x`, with that colour, in OAM order (62_ppu R452, R453). -/
def opaqueAt (m : Memory) (height x y : Nat) (sel : List Sprite) : List (Sprite × Colour) :=
  sel.filterMap fun sp =>
    match sp.colourAt m height x y with
    | some c => if c = 0 then none else some (sp, c)
    | none => none

/-- The entry with the smallest X, the first of them among equals (62_ppu R453). -/
def leftmost : List (Sprite × Colour) → Option (Sprite × Colour)
  | [] => none
  | w :: rest =>
    match leftmost rest with
    | some r => if r.1.x.toNat < w.1.x.toNat then some r else some w
    | none => some w

/-- A palette register's final colour index for a colour number (62_ppu R407). -/
def paletteColour (palette : Byte) (c : Colour) : Colour := palette.extractLsb' (2 * c.toNat) 2

/-- The final colour index of pixel `x`, row `y`, for the selected sprites `sel` (62_ppu R454). -/
def pixel (p : Ppu) (m : Memory) (sel : List Sprite) (x y : Nat) : Colour :=
  let bgc := bgColour p m x y
  let back := if bit p.lcdc 0 then paletteColour p.bgp bgc else 0
  match leftmost (opaqueAt m (spriteHeight p.lcdc) x y sel) with
  | some (sp, c) =>
    if bit sp.attr 7 && decide (bgc ≠ 0) then back
    else paletteColour (if bit sp.attr 4 then p.obp1 else p.obp0) c
  | none => back

/-- The composited row `y` (62_ppu R430, R454). -/
def renderRow (p : Ppu) (m : Memory) (y : Nat) : Vector Colour 160 :=
  let sel := selectSprites p m y
  Vector.ofFn fun x : Fin 160 => pixel p m sel x.val y

/-- `stat_signal()` (62_ppu R440). -/
def Ppu.statSignal (p : Ppu) : Bool :=
  (p.statEnables.getLsbD 3 && decide (p.ly = p.lyc)) || (p.statEnables.getLsbD 2 && decide (p.mode = .oamSearch)) ||
    (p.statEnables.getLsbD 1 && decide (p.mode = .vBlank)) || (p.statEnables.getLsbD 0 && decide (p.mode = .hBlank))

/-- The PPU in mode `m` at the first cycle unit of it. -/
def Ppu.enter (p : Ppu) (m : PpuMode) : Ppu := { p with mode := m, dot := 0 }

/-- The PPU one cycle unit further in the same mode. -/
def Ppu.stay (p : Ppu) : Ppu := { p with dot := p.dot + 1 }

/-- Entering v-blank: the VBlank request and the frame hand-off (62_ppu R420, R431, R432). -/
def enterVBlank (s : State) : State :=
  State.request { s with ppu := s.ppu.enter .vBlank, frame := some s.ppu.framebuffer } .vBlank

/-- The end of h-blank: the next line, which is v-blank's first when `ly` becomes 144 (62_ppu R420). -/
def endHBlank (s : State) : State :=
  let t : State := { s with ppu := { s.ppu with dot := 0, ly := s.ppu.ly + 1 } }
  if t.ppu.ly = 144 then enterVBlank t else { t with ppu := t.ppu.enter .oamSearch }

/-- The end of a v-blank line (62_ppu R420). -/
def endVBlankLine (s : State) : State :=
  if s.ppu.ly = 153 then { s with ppu := { s.ppu with dot := 0, ly := 0, mode := .oamSearch } }
  else { s with ppu := { s.ppu with dot := 0, ly := s.ppu.ly + 1 } }

/-- The end of pixel-transfer: row `ly` is composited (62_ppu R420, R430). -/
def endPixelTransfer (s : State) : State :=
  let y := s.ppu.ly.toNat
  let row := renderRow s.ppu s.mem y
  { s with ppu := { s.ppu.enter .hBlank with framebuffer := s.ppu.framebuffer.setIfInBounds y row } }

/-- One cycle unit of the mode state machine (62_ppu R420). -/
def ppuAdvance (s : State) : State :=
  match s.ppu.mode with
  | .oamSearch =>
    if s.ppu.dot + 1 = Config.oamSearchLen then { s with ppu := s.ppu.enter .pixelTransfer } else { s with ppu := s.ppu.stay }
  | .pixelTransfer => if s.ppu.dot + 1 = Config.pixelTransferLen then endPixelTransfer s else { s with ppu := s.ppu.stay }
  | .hBlank => if s.ppu.dot + 1 = Config.hblankLen then endHBlank s else { s with ppu := s.ppu.stay }
  | .vBlank => if s.ppu.dot + 1 = Config.scanlineLen then endVBlankLine s else { s with ppu := s.ppu.stay }

/-- Samples the STAT signal: the LCD-STAT request on its rising edge (62_ppu R420, R440). -/
def sampleStat (s : State) : State :=
  let line := s.ppu.statSignal
  State.requestIf { s with ppu := { s.ppu with statLine := line } } (line && !s.ppu.statLine) .lcdStat

/-- One cycle unit of `PPU.step` with the LCD on (62_ppu R420). -/
def ppuTick (s : State) : State := sampleStat (ppuAdvance s)

/-- `n` cycle units with the LCD on. -/
def ppuTicks : Nat → State → State
  | 0, s => s
  | n + 1, s => ppuTicks n (ppuTick s)

/-- `PPU.step(cycles)`; the frame it returns is the field `frame` (62_ppu R420, R433; log 2). -/
def ppuStep (n : Nat) (s : State) : State :=
  let t : State := { s with frame := none }
  if bit s.ppu.lcdc 7 then ppuTicks n t else t

/-- A write to LCDC, with the on and off rule of bit 7 (62_ppu R401, R433). -/
def Ppu.writeLcdc (p : Ppu) (v : Byte) : Ppu :=
  if bit p.lcdc 7 && !bit v 7 then { p with lcdc := v, ly := 0, dot := 0, mode := .hBlank, statLine := false }
  else if !bit p.lcdc 7 && bit v 7 then { p with lcdc := v, mode := .oamSearch, dot := 0 }
  else { p with lcdc := v }

/-- STAT as read: bit 7 reads 1, the enables, the coincidence, the mode (62_ppu R402). -/
def Ppu.statByte (p : Ppu) : Byte :=
  (0x80 : Byte) ||| (p.statEnables.setWidth 8) <<< 3 ||| bitAt (decide (p.ly = p.lyc)) 2 ||| BitVec.ofNat 8 p.mode.number

end Sys2Proof.Machine
end

