-- ==== Sys2Proof/Machine/Timer.lean ====
section
/-! DEFINITION. The timer (61_timer): the falling-edge rule, the register writes that obey it, the reload window, and
`Timer.step`. -/

namespace Sys2Proof.Machine

/-- The bit of `sys_counter` that clocks TIMA, by `TAC[1:0]` (61_timer R373). -/
def clockBit (select : BitVec 2) : Nat :=
  match select.toNat with
  | 0 => 9 | 1 => 3 | 2 => 5 | _ => 7

/-- `signal()` (61_timer R377). -/
def Timer.signal (t : Timer) : Bool :=
  t.tac.getLsbD 2 && t.sysCounter.getLsbD (clockBit (t.tac.extractLsb' 0 2))

/-- `tima_increment()` (61_timer R375). -/
def Timer.increment (t : Timer) : Timer :=
  if t.tima = 0xFF then { t with tima := 0x00, reloadDelay := Config.timaReloadDelay }
  else { t with tima := t.tima + 1 }

/-- The falling-edge rule, `old` being the signal before the event that left `t` (61_timer R377). -/
def Timer.afterEdge (t : Timer) (old : Bool) : Timer := if old && !t.signal then t.increment else t

/-- A write to DIV, whatever the value (61_timer R370). -/
def Timer.writeDiv (t : Timer) : Timer := Timer.afterEdge { t with sysCounter := 0x0000 } t.signal

/-- A write to TIMA cancels a pending reload (61_timer R371). -/
def Timer.writeTima (t : Timer) (v : Byte) : Timer := { t with tima := v, reloadDelay := 0 }

/-- A write to TMA (61_timer R372). -/
def Timer.writeTma (t : Timer) (v : Byte) : Timer := { t with tma := v }

/-- A write to TAC (61_timer R373). -/
def Timer.writeTac (t : Timer) (v : Byte) : Timer := Timer.afterEdge { t with tac := v.extractLsb' 0 3 } t.signal

/-- The reload window in one cycle unit: the timer after it, and whether the Timer request is made (61_timer R374, R376). -/
def Timer.reload (t : Timer) : Timer × Bool :=
  if t.reloadDelay = 0 then (t, false)
  else if t.reloadDelay = 1 then ({ t with reloadDelay := 0, tima := t.tma }, true)
  else ({ t with reloadDelay := t.reloadDelay - 1 }, false)

/-- The counter advancing by one cycle unit (61_timer R374). -/
def Timer.count (t : Timer) : Timer := Timer.afterEdge { t with sysCounter := t.sysCounter + 1 } t.signal

/-- One cycle unit of `Timer.step`: the reload window first, then the counter (61_timer R374). -/
def timerTick (s : State) : State :=
  State.requestIf { s with timer := s.timer.reload.1.count } s.timer.reload.2 .timer

/-- `Timer.step(cycles)` (61_timer R374). -/
def timerStep : Nat → State → State
  | 0, s => s
  | n + 1, s => timerStep n (timerTick s)

end Sys2Proof.Machine
end

