-- ==== Sys2Proof/Machine/Bus.lean ====
section
/-! DEFINITION. The memory bus: the owner of every address, `bus_read`, `bus_write` and the OAM copy (20_memory R60 to
R103). -/

namespace Sys2Proof.Machine

/-- The owners of addresses (20_memory R64, R70). `store k` is plain storage at the bus address `k`. -/
inductive Owner where
  | cartRom | cartRam | store (k : Nat) | unusable
  | p1 | div | tima | tma | tac | ifl
  | lcdc | stat | scy | scx | ly | lyc | dma | bgp | obp0 | obp1 | wy | wx | ie
  deriving DecidableEq, Repr

/-- The owner of an address of the I/O block (20_memory R70, R84). -/
def ioOwner (a : Nat) : Owner :=
  match a with
  | 0xFF00 => .p1
  | 0xFF04 => .div
  | 0xFF05 => .tima
  | 0xFF06 => .tma
  | 0xFF07 => .tac
  | 0xFF0F => .ifl
  | 0xFF40 => .lcdc
  | 0xFF41 => .stat
  | 0xFF42 => .scy
  | 0xFF43 => .scx
  | 0xFF44 => .ly
  | 0xFF45 => .lyc
  | 0xFF46 => .dma
  | 0xFF47 => .bgp
  | 0xFF48 => .obp0
  | 0xFF49 => .obp1
  | 0xFF4A => .wy
  | 0xFF4B => .wx
  | k => .store k

/-- The owner of an address: a pure range switch that depends on no state (20_memory R63, R64). The mirror of work RAM
is folded onto it (log 9). -/
def owner (addr : Word) : Owner :=
  let a := addr.toNat
  if a < 0x8000 then .cartRom
  else if a < 0xA000 then .store a
  else if a < 0xC000 then .cartRam
  else if a < 0xE000 then .store a
  else if a < 0xFE00 then .store (a - 0x2000)
  else if a < 0xFEA0 then .store a
  else if a < 0xFF00 then .unusable
  else if a < 0xFF80 then ioOwner a
  else if a < 0xFFFF then .store a
  else .ie

/-- `bus_read(addr)`: total, with no side effect (20_memory R61, R64, R67, R70). -/
def busRead (s : State) (addr : Word) : Byte :=
  match owner addr with
  | .cartRom => s.cart.rom.read addr.toNat
  | .cartRam => Config.absentRamRead
  | .store k => s.mem.read k
  | .unusable => Config.unusableRead
  | .p1 => s.joypad.p1Byte
  | .div => s.timer.sysCounter.extractLsb' 8 8
  | .tima => s.timer.tima
  | .tma => s.timer.tma
  | .tac => 0xF8 ||| s.timer.tac.setWidth 8
  | .ifl => 0xE0 ||| s.irq.ifl.setWidth 8
  | .lcdc => s.ppu.lcdc
  | .stat => s.ppu.statByte
  | .scy => s.ppu.scy
  | .scx => s.ppu.scx
  | .ly => s.ppu.ly
  | .lyc => s.ppu.lyc
  | .dma => s.dma
  | .bgp => s.ppu.bgp
  | .obp0 => s.ppu.obp0
  | .obp1 => s.ppu.obp1
  | .wy => s.ppu.wy
  | .wx => s.ppu.wx
  | .ie => s.irq.ie

/-- The last `n` of the 160 bytes of the OAM copy from `page`, in ascending order (20_memory R90). -/
def oamCopyLast (page : Byte) : Nat → State → State
  | 0, s => s
  | n + 1, s =>
    let i := 160 - (n + 1)
    oamCopyLast page n { s with mem := s.mem.write (0xFE00 + i) (busRead s (BitVec.ofNat 16 (page.toNat * 256 + i))) }

/-- The write to the DMA trigger: `DMA <- v`, then the copy, before it returns (20_memory R90). -/
def oamDma (s : State) (v : Byte) : State := oamCopyLast v 160 { s with dma := v }

/-- `bus_write(addr, v)`: total (20_memory R62, R64, R67, R70). -/
def busWrite (s : State) (addr : Word) (v : Byte) : State :=
  match owner addr with
  | .cartRom => s
  | .cartRam => s
  | .store k => { s with mem := s.mem.write k v }
  | .unusable => s
  | .p1 => { s with joypad := s.joypad.writeP1 v }
  | .div => { s with timer := s.timer.writeDiv }
  | .tima => { s with timer := s.timer.writeTima v }
  | .tma => { s with timer := s.timer.writeTma v }
  | .tac => { s with timer := s.timer.writeTac v }
  | .ifl => { s with irq := { s.irq with ifl := v.extractLsb' 0 5 } }
  | .lcdc => { s with ppu := s.ppu.writeLcdc v }
  | .stat => { s with ppu := { s.ppu with statEnables := v.extractLsb' 3 4 } }
  | .scy => { s with ppu := { s.ppu with scy := v } }
  | .scx => { s with ppu := { s.ppu with scx := v } }
  | .ly => { s with ppu := { s.ppu with ly := 0 } }
  | .lyc => { s with ppu := { s.ppu with lyc := v } }
  | .dma => oamDma s v
  | .bgp => { s with ppu := { s.ppu with bgp := v } }
  | .obp0 => { s with ppu := { s.ppu with obp0 := v } }
  | .obp1 => { s with ppu := { s.ppu with obp1 := v } }
  | .wy => { s with ppu := { s.ppu with wy := v } }
  | .wx => { s with ppu := { s.ppu with wx := v } }
  | .ie => { s with irq := { s.irq with ie := v } }

end Sys2Proof.Machine
end

