-- ==== Sys2Proof/Machine/Flags.lean ====
section
/-! DEFINITION. The flags of F (10_state R23, R24) and every flag computation of the instruction rules: 8-bit and 16-bit
sums and differences, DAA, the rotates and shifts. Each computation is exact on integers and narrowed at the end. -/

namespace Sys2Proof.Machine

/-- The four flags, in the order Z N H C (10_state R23). -/
structure FlagBits where
  z : Bool
  n : Bool
  h : Bool
  c : Bool
  deriving DecidableEq, Repr

/-- F holding four flags: Z = F[7], N = F[6], H = F[5], C = F[4], F[3:0] = 0 (10_state R23, R24). -/
def FlagBits.pack (x : FlagBits) : Byte := bitAt x.z 7 ||| bitAt x.n 6 ||| bitAt x.h 5 ||| bitAt x.c 4

/-- `F.Z`. -/
def State.flagZ (s : State) : Bool := bit s.cpu.f 7

/-- `F.N`. -/
def State.flagN (s : State) : Bool := bit s.cpu.f 6

/-- `F.H`. -/
def State.flagH (s : State) : Bool := bit s.cpu.f 5

/-- `F.C`. -/
def State.flagC (s : State) : Bool := bit s.cpu.f 4

/-- Writes the four flags. -/
def State.withFlags (s : State) (x : FlagBits) : State := { s with cpu := { s.cpu with f := x.pack } }

/-- `u8(v)` of an exact integer (00_scope R6). -/
def u8 (v : Int) : Byte := BitVec.ofInt 8 v

/-- `u16(v)` of an exact integer (00_scope R6). -/
def u16 (v : Int) : Word := BitVec.ofInt 16 v

/-- The sum of ADD and ADC with its flags (42_alu8 R201, R202); `cin` is false for ADD. -/
def addFlags (a s : Byte) (cin : Bool) : Byte × FlagBits :=
  let r := a.toNat + s.toNat + cin.toNat
  (u8 r, { z := u8 r = 0, n := false, h := decide (a.toNat % 16 + s.toNat % 16 + cin.toNat > 0x0F), c := decide (r > 0xFF) })

/-- The difference of SUB, SBC and CP with its borrow flags (42_alu8 R203, R204, R208); `cin` is false for SUB and CP. -/
def subFlags (a s : Byte) (cin : Bool) : Byte × FlagBits :=
  let r : Int := (a.toNat : Int) - s.toNat - cin.toNat
  (u8 r, { z := u8 r = 0, n := true, h := decide (a.toNat % 16 < s.toNat % 16 + cin.toNat), c := decide (a.toNat < s.toNat + cin.toNat) })

/-- The result of AND, XOR, OR with its flags (42_alu8 R205 to R207); H is set for AND alone. -/
def logicFlags (r : Byte) (h : Bool) : Byte × FlagBits := (r, { z := r = 0, n := false, h := h, c := false })

/-- The eight operations of the ALU group, `alu[i]` (30_encoding R128). -/
inductive AluOp where
  | add | adc | sub | sbc | and | xor | or | cp
  deriving DecidableEq, Repr

/-- What an ALU operation leaves in A, and its flags, from A, the source byte and the carry before (42_alu8 R201 to R208).
CP leaves A as it was. -/
def alu (op : AluOp) (a s : Byte) (carry : Bool) : Byte × FlagBits :=
  match op with
  | .add => addFlags a s false
  | .adc => addFlags a s carry
  | .sub => subFlags a s false
  | .sbc => subFlags a s carry
  | .and => logicFlags (a &&& s) true
  | .xor => logicFlags (a ^^^ s) false
  | .or => logicFlags (a ||| s) false
  | .cp => (a, (subFlags a s false).2)

/-- INC of a byte: C is kept (42_alu8 R209). -/
def incFlags (v : Byte) (carry : Bool) : Byte × FlagBits :=
  let r := u8 ((v.toNat : Int) + 1)
  (r, { z := r = 0, n := false, h := v.toNat % 16 = 0x0F, c := carry })

/-- DEC of a byte: C is kept (42_alu8 R211). -/
def decFlags (v : Byte) (carry : Bool) : Byte × FlagBits :=
  let r := u8 ((v.toNat : Int) - 1)
  (r, { z := r = 0, n := true, h := v.toNat % 16 = 0x00, c := carry })

/-- The adjustment of DAA and its carry, from A, N, H and C before (42_alu8 R213). Both tests after an addition look at
A from before any adjustment. -/
def daaFlags (a : Byte) (n h c : Bool) : Byte × FlagBits :=
  if n then
    let adj := (if h then 0x06 else 0) + (if c then 0x60 else 0)
    let r := u8 ((a.toNat : Int) - (adj : Nat))
    (r, { z := r = 0, n := n, h := false, c := c })
  else
    let big := c || decide (a.toNat > 0x99)
    let adj := (if h || decide (a.toNat % 16 > 0x09) then 0x06 else 0) + (if big then 0x60 else 0)
    let r := u8 ((a.toNat : Int) + (adj : Nat))
    (r, { z := r = 0, n := n, h := false, c := big })

/-- `ADD HL,rr`: H is the carry out of bit 11, C out of bit 15, Z is kept (43_alu16 R240). -/
def addHlFlags (h s : Word) (zero : Bool) : Word × FlagBits :=
  let r := h.toNat + s.toNat
  (u16 r, { z := zero, n := false, h := decide (h.toNat % 0x1000 + s.toNat % 0x1000 > 0x0FFF), c := decide (r > 0xFFFF) })

/-- `SP + e8` with the flags of the unsigned addition of the low byte of SP and the raw offset byte
(41_load16_stack R183, 43_alu16 R243). -/
def spOffsetFlags (sp : Word) (n : Byte) : Word × FlagBits :=
  (addSext sp n,
    { z := false, n := false, h := decide (sp.toNat % 16 + n.toNat % 16 > 0x0F), c := decide (sp.toNat % 256 + n.toNat > 0xFF) })

/-- The rotates and shifts, `rot[i]` (30_encoding R128). -/
inductive RotOp where
  | rlc | rrc | rl | rr | sla | sra | swap | srl
  deriving DecidableEq, Repr

/-- What a rotate or shift makes of `v`, and the carry after (44_rotate_shift_bit R255 to R262). -/
def rotate (op : RotOp) (v : Byte) (carry : Bool) : Byte × Bool :=
  match op with
  | .rlc => (v <<< 1 ||| bitAt (bit v 7) 0, bit v 7)
  | .rrc => (v >>> 1 ||| bitAt (bit v 0) 7, bit v 0)
  | .rl => (v <<< 1 ||| bitAt carry 0, bit v 7)
  | .rr => (v >>> 1 ||| bitAt carry 7, bit v 0)
  | .sla => (v <<< 1, bit v 7)
  | .sra => (v >>> 1 ||| v &&& 0x80, bit v 0)
  | .swap => (v <<< 4 ||| v >>> 4, false)
  | .srl => (v >>> 1, bit v 0)

/-- The flags of a secondary rotate or shift: Z from the result, N and H clear (44_rotate_shift_bit section 3). -/
def rotateFlags (op : RotOp) (v : Byte) (carry : Bool) : Byte × FlagBits :=
  let (r, c) := rotate op v carry
  (r, { z := r = 0, n := false, h := false, c := c })

end Sys2Proof.Machine
end

