-- ==== Sys2Proof/Machine/Operands.lean ====
section
/-! DEFINITION. The operand tables: `r8`, `r16`, `r16stk` and `cc` (30_encoding R124 to R127), the register pair views
(10_state R21), and the writers of the single registers. -/

namespace Sys2Proof.Machine

/-- `PC <- v`. -/
def State.withPc (s : State) (v : Word) : State := { s with cpu := { s.cpu with pc := v } }

/-- `SP <- v`. -/
def State.withSp (s : State) (v : Word) : State := { s with cpu := { s.cpu with sp := v } }

/-- `A <- v`. -/
def State.withA (s : State) (v : Byte) : State := { s with cpu := { s.cpu with a := v } }

/-- `cycles <- n` (00_scope R7). -/
def State.took (s : State) (n : Nat) : State := { s with cycles := n }

/-- BC = {B, C} (10_state R21). -/
def State.bc (s : State) : Word := joinBytes s.cpu.b s.cpu.c

/-- DE = {D, E} (10_state R21). -/
def State.de (s : State) : Word := joinBytes s.cpu.d s.cpu.e

/-- HL = {H, L} (10_state R21). -/
def State.hl (s : State) : Word := joinBytes s.cpu.h s.cpu.l

/-- AF = {A, F} (10_state R21). -/
def State.af (s : State) : Word := joinBytes s.cpu.a s.cpu.f

/-- `BC <- v`. -/
def State.withBc (s : State) (v : Word) : State := { s with cpu := { s.cpu with b := hiByte v, c := loByte v } }

/-- `DE <- v`. -/
def State.withDe (s : State) (v : Word) : State := { s with cpu := { s.cpu with d := hiByte v, e := loByte v } }

/-- `HL <- v`. -/
def State.withHl (s : State) (v : Word) : State := { s with cpu := { s.cpu with h := hiByte v, l := loByte v } }

/-- `AF <- v`, F through the mask of 10_state R24 (41_load16_stack R186). -/
def State.withAf (s : State) (v : Word) : State := { s with cpu := { s.cpu with a := hiByte v, f := loByte v &&& 0xF0 } }

/-- `r8[i]` (30_encoding R124); `indHl` is index 6, the byte at HL. -/
inductive R8 where
  | b | c | d | e | h | l | indHl | a
  deriving DecidableEq, Repr

/-- `r8[i]` by its index (30_encoding R124). -/
def r8OfIndex (i : BitVec 3) : R8 :=
  match i.toNat with
  | 0 => .b | 1 => .c | 2 => .d | 3 => .e | 4 => .h | 5 => .l | 6 => .indHl | _ => .a

/-- Reads `r8[i]` (30_encoding R124). -/
def readR8 (s : State) : R8 → Byte
  | .b => s.cpu.b
  | .c => s.cpu.c
  | .d => s.cpu.d
  | .e => s.cpu.e
  | .h => s.cpu.h
  | .l => s.cpu.l
  | .indHl => busRead s s.hl
  | .a => s.cpu.a

/-- `r8[i] <- v` (30_encoding R124). -/
def writeR8 (s : State) (r : R8) (v : Byte) : State :=
  match r with
  | .b => { s with cpu := { s.cpu with b := v } }
  | .c => { s with cpu := { s.cpu with c := v } }
  | .d => { s with cpu := { s.cpu with d := v } }
  | .e => { s with cpu := { s.cpu with e := v } }
  | .h => { s with cpu := { s.cpu with h := v } }
  | .l => { s with cpu := { s.cpu with l := v } }
  | .indHl => busWrite s s.hl v
  | .a => { s with cpu := { s.cpu with a := v } }

/-- `r16[i]` (30_encoding R125). -/
inductive R16 where
  | bc | de | hl | sp
  deriving DecidableEq, Repr

/-- Reads `r16[i]`. -/
def readR16 (s : State) : R16 → Word
  | .bc => s.bc
  | .de => s.de
  | .hl => s.hl
  | .sp => s.cpu.sp

/-- `r16[i] <- v`. -/
def writeR16 (s : State) (r : R16) (v : Word) : State :=
  match r with
  | .bc => s.withBc v
  | .de => s.withDe v
  | .hl => s.withHl v
  | .sp => s.withSp v

/-- `r16stk[i]` (30_encoding R126). -/
inductive R16Stk where
  | bc | de | hl | af
  deriving DecidableEq, Repr

/-- Reads `r16stk[i]`. -/
def readStk (s : State) : R16Stk → Word
  | .bc => s.bc
  | .de => s.de
  | .hl => s.hl
  | .af => s.af

/-- `r16stk[i] <- v`; AF is written through the mask of F (41_load16_stack R186). -/
def writeStk (s : State) (r : R16Stk) (v : Word) : State :=
  match r with
  | .bc => s.withBc v
  | .de => s.withDe v
  | .hl => s.withHl v
  | .af => s.withAf v

/-- `cc[i]` (30_encoding R127). -/
inductive Cond where
  | nz | z | nc | c
  deriving DecidableEq, Repr

/-- `cond(i)` (45_control R279). -/
def State.holds (s : State) : Cond → Bool
  | .nz => !s.flagZ
  | .z => s.flagZ
  | .nc => !s.flagC
  | .c => s.flagC

end Sys2Proof.Machine
end

