-- ==== Sys2Proof/Machine/Ops.lean ====
section
/-! DEFINITION. The named operations over memory and registers that several meanings share: the stack, the fetch of one
byte, taking an interrupt (60_exceptions R332) and returning from one (45_control R289). -/

namespace Sys2Proof.Machine

/-- `push16(v)`: high byte at SP-1 first, then low byte at SP-2 (00_scope R7, 20_memory R102). -/
def push16 (s : State) (v : Word) : State :=
  let s1 := s.withSp (s.cpu.sp - 1)
  let s2 := busWrite s1 s1.cpu.sp (hiByte v)
  let s3 := s2.withSp (s2.cpu.sp - 1)
  busWrite s3 s3.cpu.sp (loByte v)

/-- The word `pop16()` returns: low byte at SP, high byte at SP+1 (00_scope R7). -/
def topWord (s : State) : Word := joinBytes (busRead s (s.cpu.sp + 1)) (busRead s s.cpu.sp)

/-- What `pop16()` leaves: SP past the word (00_scope R7). -/
def dropWord (s : State) : State := s.withSp (s.cpu.sp + 2)

/-- `MemWrite(addr, 2, v)`: low byte at `addr`, then high byte at `u16(addr+1)` (00_scope R7, 41_load16_stack R181). -/
def writeWord (s : State) (addr v : Word) : State :=
  busWrite (busWrite s addr (loByte v)) (addr + 1) (hiByte v)

/-- `fetch8()`: the byte at PC (00_scope R7). -/
def fetchByte (s : State) : Byte := busRead s s.cpu.pc

/-- PC past `n` fetched bytes, wrapping (10_state R26). -/
def skipBytes (s : State) (n : Nat) : State := s.withPc (s.cpu.pc + BitVec.ofNat 16 n)

/-- `dispatch(k)`, taking an interrupt: IME and `ime_pending` cleared, the request acknowledged, PC pushed, PC at the
vector, at `INT_DISPATCH_COST` (60_exceptions R332). -/
def dispatch (s : State) (k : IrqKind) : State :=
  let s1 : State := { s with irq := { s.irq with ime := false, imePending := false } }
  let s2 := s1.acknowledge k
  ((push16 s2 s2.cpu.pc).withPc k.vector).took Config.intDispatchCost

/-- `PC <- pop16()`, the return of RET, RET cc and RETI (45_control R287 to R289). -/
def returnToPopped (s : State) : State := (dropWord s).withPc (topWord s)

/-- The return from an interrupt: as RET, and IME set at once, `ime_pending` cleared (45_control R289, 60_exceptions
R334). -/
def returnFromInterrupt (s : State) : State :=
  let t := returnToPopped s
  { t with irq := { t.irq with ime := true, imePending := false } }

end Sys2Proof.Machine
end

