-- ==== Sys2Proof/Machine/Alu16.lean ====
section
/-! DEFINITION. 16-bit arithmetic (43_alu16 R240 to R243). -/

namespace Sys2Proof.Machine

/-- `HL <- u16(HL + r16[r])`, Z kept (R240). -/
def addHl (r : R16) (s : State) : Result :=
  let (v, x) := addHlFlags s.hl (readR16 s r) s.flagZ
  .next (((s.withFlags x).withHl v).took 8)

/-- `r16[r] <- u16(r16[r] + 1)`, no flag (R241). -/
def incR16 (r : R16) (s : State) : Result := .next ((writeR16 s r (readR16 s r + 1)).took 8)

/-- `r16[r] <- u16(r16[r] - 1)`, no flag (R242). -/
def decR16 (r : R16) (s : State) : Result := .next ((writeR16 s r (readR16 s r - 1)).took 8)

/-- `SP <- u16(SP + sext_8(n))` with its flags (R243). -/
def addSpOffset (n : Byte) (s : State) : Result :=
  let (v, x) := spOffsetFlags s.cpu.sp n
  .next (((s.withFlags x).withSp v).took 16)

/-- `INC BC`, `0x03` (R241). -/
def execIncBc (s : State) : Result := incR16 .bc s

/-- `ADD HL,BC`, `0x09` (R240). -/
def execAddHlBc (s : State) : Result := addHl .bc s

/-- `DEC BC`, `0x0B` (R242). -/
def execDecBc (s : State) : Result := decR16 .bc s

/-- `INC DE`, `0x13` (R241). -/
def execIncDe (s : State) : Result := incR16 .de s

/-- `ADD HL,DE`, `0x19` (R240). -/
def execAddHlDe (s : State) : Result := addHl .de s

/-- `DEC DE`, `0x1B` (R242). -/
def execDecDe (s : State) : Result := decR16 .de s

/-- `INC HL`, `0x23` (R241). -/
def execIncHl (s : State) : Result := incR16 .hl s

/-- `ADD HL,HL`, `0x29` (R240). -/
def execAddHlHl (s : State) : Result := addHl .hl s

/-- `DEC HL`, `0x2B` (R242). -/
def execDecHl (s : State) : Result := decR16 .hl s

/-- `INC SP`, `0x33` (R241). -/
def execIncSp (s : State) : Result := incR16 .sp s

/-- `ADD HL,SP`, `0x39` (R240). -/
def execAddHlSp (s : State) : Result := addHl .sp s

/-- `DEC SP`, `0x3B` (R242). -/
def execDecSp (s : State) : Result := decR16 .sp s

/-- `ADD SP,e8`, `0xE8` (R243). -/
def execAddSpE8 (e8 : Byte) (s : State) : Result := addSpOffset e8 s

end Sys2Proof.Machine
end

