-- ==== Sys2Proof/Machine/Alu8.lean ====
section
/-! DEFINITION. 8-bit arithmetic and logic (42_alu8 R199 to R216). -/

namespace Sys2Proof.Machine

/-- An ALU operation on A and the source byte `v` (R200 to R208). -/
def aluA (op : AluOp) (v : Byte) (n : Nat) (s : State) : Result :=
  let (r, x) := alu op s.cpu.a v s.flagC
  .next (((s.withFlags x).withA r).took n)

/-- INC of `r8[r]` (R209, R210): the flags, then the write. -/
def incR8 (r : R8) (n : Nat) (s : State) : Result :=
  let (v, x) := incFlags (readR8 s r) s.flagC
  .next ((writeR8 (s.withFlags x) r v).took n)

/-- DEC of `r8[r]` (R211, R212): the flags, then the write. -/
def decR8 (r : R8) (n : Nat) (s : State) : Result :=
  let (v, x) := decFlags (readR8 s r) s.flagC
  .next ((writeR8 (s.withFlags x) r v).took n)

/-- Decimal adjust (R213). -/
def adjustA (s : State) : Result :=
  let (r, x) := daaFlags s.cpu.a s.flagN s.flagH s.flagC
  .next (((s.withFlags x).withA r).took 4)

/-- Complement A (R214). -/
def complementA (s : State) : Result :=
  .next (((s.withFlags { z := s.flagZ, n := true, h := true, c := s.flagC }).withA (s.cpu.a ^^^ 0xFF)).took 4)

/-- Set the carry flag (R215). -/
def setCarry (s : State) : Result := .next ((s.withFlags { z := s.flagZ, n := false, h := false, c := true }).took 4)

/-- Complement the carry flag (R216). -/
def complementCarry (s : State) : Result :=
  .next ((s.withFlags { z := s.flagZ, n := false, h := false, c := !s.flagC }).took 4)

/-- `INC B`, `0x04` (R209). -/
def execIncB (s : State) : Result := incR8 .b 4 s

/-- `DEC B`, `0x05` (R211). -/
def execDecB (s : State) : Result := decR8 .b 4 s

/-- `INC C`, `0x0C` (R209). -/
def execIncC (s : State) : Result := incR8 .c 4 s

/-- `DEC C`, `0x0D` (R211). -/
def execDecC (s : State) : Result := decR8 .c 4 s

/-- `INC D`, `0x14` (R209). -/
def execIncD (s : State) : Result := incR8 .d 4 s

/-- `DEC D`, `0x15` (R211). -/
def execDecD (s : State) : Result := decR8 .d 4 s

/-- `INC E`, `0x1C` (R209). -/
def execIncE (s : State) : Result := incR8 .e 4 s

/-- `DEC E`, `0x1D` (R211). -/
def execDecE (s : State) : Result := decR8 .e 4 s

/-- `INC H`, `0x24` (R209). -/
def execIncH (s : State) : Result := incR8 .h 4 s

/-- `DEC H`, `0x25` (R211). -/
def execDecH (s : State) : Result := decR8 .h 4 s

/-- `DAA`, `0x27` (R213). -/
def execDaa (s : State) : Result := adjustA s

/-- `INC L`, `0x2C` (R209). -/
def execIncL (s : State) : Result := incR8 .l 4 s

/-- `DEC L`, `0x2D` (R211). -/
def execDecL (s : State) : Result := decR8 .l 4 s

/-- `CPL`, `0x2F` (R214). -/
def execCpl (s : State) : Result := complementA s

/-- `INC (HL)`, `0x34` (R210). -/
def execIncIndHl (s : State) : Result := incR8 .indHl 12 s

/-- `DEC (HL)`, `0x35` (R212). -/
def execDecIndHl (s : State) : Result := decR8 .indHl 12 s

/-- `SCF`, `0x37` (R215). -/
def execScf (s : State) : Result := setCarry s

/-- `INC A`, `0x3C` (R209). -/
def execIncA (s : State) : Result := incR8 .a 4 s

/-- `DEC A`, `0x3D` (R211). -/
def execDecA (s : State) : Result := decR8 .a 4 s

/-- `CCF`, `0x3F` (R216). -/
def execCcf (s : State) : Result := complementCarry s

/-- `ADD A,B`, `0x80` (R201). -/
def execAddAB (s : State) : Result := aluA .add (readR8 s .b) 4 s

/-- `ADD A,C`, `0x81` (R201). -/
def execAddAC (s : State) : Result := aluA .add (readR8 s .c) 4 s

/-- `ADD A,D`, `0x82` (R201). -/
def execAddAD (s : State) : Result := aluA .add (readR8 s .d) 4 s

/-- `ADD A,E`, `0x83` (R201). -/
def execAddAE (s : State) : Result := aluA .add (readR8 s .e) 4 s

/-- `ADD A,H`, `0x84` (R201). -/
def execAddAH (s : State) : Result := aluA .add (readR8 s .h) 4 s

/-- `ADD A,L`, `0x85` (R201). -/
def execAddAL (s : State) : Result := aluA .add (readR8 s .l) 4 s

/-- `ADD A,(HL)`, `0x86` (R201). -/
def execAddAIndHl (s : State) : Result := aluA .add (readR8 s .indHl) 8 s

/-- `ADD A,A`, `0x87` (R201). -/
def execAddAA (s : State) : Result := aluA .add (readR8 s .a) 4 s

/-- `ADC A,B`, `0x88` (R202). -/
def execAdcAB (s : State) : Result := aluA .adc (readR8 s .b) 4 s

/-- `ADC A,C`, `0x89` (R202). -/
def execAdcAC (s : State) : Result := aluA .adc (readR8 s .c) 4 s

/-- `ADC A,D`, `0x8A` (R202). -/
def execAdcAD (s : State) : Result := aluA .adc (readR8 s .d) 4 s

/-- `ADC A,E`, `0x8B` (R202). -/
def execAdcAE (s : State) : Result := aluA .adc (readR8 s .e) 4 s

/-- `ADC A,H`, `0x8C` (R202). -/
def execAdcAH (s : State) : Result := aluA .adc (readR8 s .h) 4 s

/-- `ADC A,L`, `0x8D` (R202). -/
def execAdcAL (s : State) : Result := aluA .adc (readR8 s .l) 4 s

/-- `ADC A,(HL)`, `0x8E` (R202). -/
def execAdcAIndHl (s : State) : Result := aluA .adc (readR8 s .indHl) 8 s

/-- `ADC A,A`, `0x8F` (R202). -/
def execAdcAA (s : State) : Result := aluA .adc (readR8 s .a) 4 s

/-- `SUB B`, `0x90` (R203). -/
def execSubB (s : State) : Result := aluA .sub (readR8 s .b) 4 s

/-- `SUB C`, `0x91` (R203). -/
def execSubC (s : State) : Result := aluA .sub (readR8 s .c) 4 s

/-- `SUB D`, `0x92` (R203). -/
def execSubD (s : State) : Result := aluA .sub (readR8 s .d) 4 s

/-- `SUB E`, `0x93` (R203). -/
def execSubE (s : State) : Result := aluA .sub (readR8 s .e) 4 s

/-- `SUB H`, `0x94` (R203). -/
def execSubH (s : State) : Result := aluA .sub (readR8 s .h) 4 s

/-- `SUB L`, `0x95` (R203). -/
def execSubL (s : State) : Result := aluA .sub (readR8 s .l) 4 s

/-- `SUB (HL)`, `0x96` (R203). -/
def execSubIndHl (s : State) : Result := aluA .sub (readR8 s .indHl) 8 s

/-- `SUB A`, `0x97` (R203). -/
def execSubA (s : State) : Result := aluA .sub (readR8 s .a) 4 s

/-- `SBC A,B`, `0x98` (R204). -/
def execSbcAB (s : State) : Result := aluA .sbc (readR8 s .b) 4 s

/-- `SBC A,C`, `0x99` (R204). -/
def execSbcAC (s : State) : Result := aluA .sbc (readR8 s .c) 4 s

/-- `SBC A,D`, `0x9A` (R204). -/
def execSbcAD (s : State) : Result := aluA .sbc (readR8 s .d) 4 s

/-- `SBC A,E`, `0x9B` (R204). -/
def execSbcAE (s : State) : Result := aluA .sbc (readR8 s .e) 4 s

/-- `SBC A,H`, `0x9C` (R204). -/
def execSbcAH (s : State) : Result := aluA .sbc (readR8 s .h) 4 s

/-- `SBC A,L`, `0x9D` (R204). -/
def execSbcAL (s : State) : Result := aluA .sbc (readR8 s .l) 4 s

/-- `SBC A,(HL)`, `0x9E` (R204). -/
def execSbcAIndHl (s : State) : Result := aluA .sbc (readR8 s .indHl) 8 s

/-- `SBC A,A`, `0x9F` (R204). -/
def execSbcAA (s : State) : Result := aluA .sbc (readR8 s .a) 4 s

/-- `AND B`, `0xA0` (R205). -/
def execAndB (s : State) : Result := aluA .and (readR8 s .b) 4 s

/-- `AND C`, `0xA1` (R205). -/
def execAndC (s : State) : Result := aluA .and (readR8 s .c) 4 s

/-- `AND D`, `0xA2` (R205). -/
def execAndD (s : State) : Result := aluA .and (readR8 s .d) 4 s

/-- `AND E`, `0xA3` (R205). -/
def execAndE (s : State) : Result := aluA .and (readR8 s .e) 4 s

/-- `AND H`, `0xA4` (R205). -/
def execAndH (s : State) : Result := aluA .and (readR8 s .h) 4 s

/-- `AND L`, `0xA5` (R205). -/
def execAndL (s : State) : Result := aluA .and (readR8 s .l) 4 s

/-- `AND (HL)`, `0xA6` (R205). -/
def execAndIndHl (s : State) : Result := aluA .and (readR8 s .indHl) 8 s

/-- `AND A`, `0xA7` (R205). -/
def execAndA (s : State) : Result := aluA .and (readR8 s .a) 4 s

/-- `XOR B`, `0xA8` (R206). -/
def execXorB (s : State) : Result := aluA .xor (readR8 s .b) 4 s

/-- `XOR C`, `0xA9` (R206). -/
def execXorC (s : State) : Result := aluA .xor (readR8 s .c) 4 s

/-- `XOR D`, `0xAA` (R206). -/
def execXorD (s : State) : Result := aluA .xor (readR8 s .d) 4 s

/-- `XOR E`, `0xAB` (R206). -/
def execXorE (s : State) : Result := aluA .xor (readR8 s .e) 4 s

/-- `XOR H`, `0xAC` (R206). -/
def execXorH (s : State) : Result := aluA .xor (readR8 s .h) 4 s

/-- `XOR L`, `0xAD` (R206). -/
def execXorL (s : State) : Result := aluA .xor (readR8 s .l) 4 s

/-- `XOR (HL)`, `0xAE` (R206). -/
def execXorIndHl (s : State) : Result := aluA .xor (readR8 s .indHl) 8 s

/-- `XOR A`, `0xAF` (R206). -/
def execXorA (s : State) : Result := aluA .xor (readR8 s .a) 4 s

/-- `OR B`, `0xB0` (R207). -/
def execOrB (s : State) : Result := aluA .or (readR8 s .b) 4 s

/-- `OR C`, `0xB1` (R207). -/
def execOrC (s : State) : Result := aluA .or (readR8 s .c) 4 s

/-- `OR D`, `0xB2` (R207). -/
def execOrD (s : State) : Result := aluA .or (readR8 s .d) 4 s

/-- `OR E`, `0xB3` (R207). -/
def execOrE (s : State) : Result := aluA .or (readR8 s .e) 4 s

/-- `OR H`, `0xB4` (R207). -/
def execOrH (s : State) : Result := aluA .or (readR8 s .h) 4 s

/-- `OR L`, `0xB5` (R207). -/
def execOrL (s : State) : Result := aluA .or (readR8 s .l) 4 s

/-- `OR (HL)`, `0xB6` (R207). -/
def execOrIndHl (s : State) : Result := aluA .or (readR8 s .indHl) 8 s

/-- `OR A`, `0xB7` (R207). -/
def execOrA (s : State) : Result := aluA .or (readR8 s .a) 4 s

/-- `CP B`, `0xB8` (R208). -/
def execCpB (s : State) : Result := aluA .cp (readR8 s .b) 4 s

/-- `CP C`, `0xB9` (R208). -/
def execCpC (s : State) : Result := aluA .cp (readR8 s .c) 4 s

/-- `CP D`, `0xBA` (R208). -/
def execCpD (s : State) : Result := aluA .cp (readR8 s .d) 4 s

/-- `CP E`, `0xBB` (R208). -/
def execCpE (s : State) : Result := aluA .cp (readR8 s .e) 4 s

/-- `CP H`, `0xBC` (R208). -/
def execCpH (s : State) : Result := aluA .cp (readR8 s .h) 4 s

/-- `CP L`, `0xBD` (R208). -/
def execCpL (s : State) : Result := aluA .cp (readR8 s .l) 4 s

/-- `CP (HL)`, `0xBE` (R208). -/
def execCpIndHl (s : State) : Result := aluA .cp (readR8 s .indHl) 8 s

/-- `CP A`, `0xBF` (R208). -/
def execCpA (s : State) : Result := aluA .cp (readR8 s .a) 4 s

/-- `ADD A,d8`, `0xC6` (R201). -/
def execAddAD8 (d8 : Byte) (s : State) : Result := aluA .add d8 8 s

/-- `ADC A,d8`, `0xCE` (R202). -/
def execAdcAD8 (d8 : Byte) (s : State) : Result := aluA .adc d8 8 s

/-- `SUB d8`, `0xD6` (R203). -/
def execSubD8 (d8 : Byte) (s : State) : Result := aluA .sub d8 8 s

/-- `SBC A,d8`, `0xDE` (R204). -/
def execSbcAD8 (d8 : Byte) (s : State) : Result := aluA .sbc d8 8 s

/-- `AND d8`, `0xE6` (R205). -/
def execAndD8 (d8 : Byte) (s : State) : Result := aluA .and d8 8 s

/-- `XOR d8`, `0xEE` (R206). -/
def execXorD8 (d8 : Byte) (s : State) : Result := aluA .xor d8 8 s

/-- `OR d8`, `0xF6` (R207). -/
def execOrD8 (d8 : Byte) (s : State) : Result := aluA .or d8 8 s

/-- `CP d8`, `0xFE` (R208). -/
def execCpD8 (d8 : Byte) (s : State) : Result := aluA .cp d8 8 s

end Sys2Proof.Machine
end

