-- ==== Sys2Proof/Machine/BitOps.lean ====
section
/-! DEFINITION. BIT, RES and SET (44_rotate_shift_bit R263 to R265). -/

namespace Sys2Proof.Machine

/-- `BIT b,r8[r]`: Z is the complement of the bit, C is kept, nothing is written back (R263). -/
def bitBit (b : Nat) (r : R8) (n : Nat) (s : State) : Result :=
  .next ((s.withFlags { z := !bit (readR8 s r) b, n := false, h := true, c := s.flagC }).took n)

/-- `RES b,r8[r]`: the bit cleared and the byte written back (R264). -/
def resBit (b : Nat) (r : R8) (n : Nat) (s : State) : Result :=
  .next ((writeR8 s r (readR8 s r &&& ~~~(bitAt true b))).took n)

/-- `SET b,r8[r]`: the bit set and the byte written back (R265). -/
def setBit (b : Nat) (r : R8) (n : Nat) (s : State) : Result :=
  .next ((writeR8 s r (readR8 s r ||| bitAt true b)).took n)

/-- `BIT 0,B`, `0xCB 0x40` (R263). -/
def execBit0B (s : State) : Result := bitBit 0 .b 8 s

/-- `BIT 0,C`, `0xCB 0x41` (R263). -/
def execBit0C (s : State) : Result := bitBit 0 .c 8 s

/-- `BIT 0,D`, `0xCB 0x42` (R263). -/
def execBit0D (s : State) : Result := bitBit 0 .d 8 s

/-- `BIT 0,E`, `0xCB 0x43` (R263). -/
def execBit0E (s : State) : Result := bitBit 0 .e 8 s

/-- `BIT 0,H`, `0xCB 0x44` (R263). -/
def execBit0H (s : State) : Result := bitBit 0 .h 8 s

/-- `BIT 0,L`, `0xCB 0x45` (R263). -/
def execBit0L (s : State) : Result := bitBit 0 .l 8 s

/-- `BIT 0,(HL)`, `0xCB 0x46` (R263). -/
def execBit0IndHl (s : State) : Result := bitBit 0 .indHl 12 s

/-- `BIT 0,A`, `0xCB 0x47` (R263). -/
def execBit0A (s : State) : Result := bitBit 0 .a 8 s

/-- `BIT 1,B`, `0xCB 0x48` (R263). -/
def execBit1B (s : State) : Result := bitBit 1 .b 8 s

/-- `BIT 1,C`, `0xCB 0x49` (R263). -/
def execBit1C (s : State) : Result := bitBit 1 .c 8 s

/-- `BIT 1,D`, `0xCB 0x4A` (R263). -/
def execBit1D (s : State) : Result := bitBit 1 .d 8 s

/-- `BIT 1,E`, `0xCB 0x4B` (R263). -/
def execBit1E (s : State) : Result := bitBit 1 .e 8 s

/-- `BIT 1,H`, `0xCB 0x4C` (R263). -/
def execBit1H (s : State) : Result := bitBit 1 .h 8 s

/-- `BIT 1,L`, `0xCB 0x4D` (R263). -/
def execBit1L (s : State) : Result := bitBit 1 .l 8 s

/-- `BIT 1,(HL)`, `0xCB 0x4E` (R263). -/
def execBit1IndHl (s : State) : Result := bitBit 1 .indHl 12 s

/-- `BIT 1,A`, `0xCB 0x4F` (R263). -/
def execBit1A (s : State) : Result := bitBit 1 .a 8 s

/-- `BIT 2,B`, `0xCB 0x50` (R263). -/
def execBit2B (s : State) : Result := bitBit 2 .b 8 s

/-- `BIT 2,C`, `0xCB 0x51` (R263). -/
def execBit2C (s : State) : Result := bitBit 2 .c 8 s

/-- `BIT 2,D`, `0xCB 0x52` (R263). -/
def execBit2D (s : State) : Result := bitBit 2 .d 8 s

/-- `BIT 2,E`, `0xCB 0x53` (R263). -/
def execBit2E (s : State) : Result := bitBit 2 .e 8 s

/-- `BIT 2,H`, `0xCB 0x54` (R263). -/
def execBit2H (s : State) : Result := bitBit 2 .h 8 s

/-- `BIT 2,L`, `0xCB 0x55` (R263). -/
def execBit2L (s : State) : Result := bitBit 2 .l 8 s

/-- `BIT 2,(HL)`, `0xCB 0x56` (R263). -/
def execBit2IndHl (s : State) : Result := bitBit 2 .indHl 12 s

/-- `BIT 2,A`, `0xCB 0x57` (R263). -/
def execBit2A (s : State) : Result := bitBit 2 .a 8 s

/-- `BIT 3,B`, `0xCB 0x58` (R263). -/
def execBit3B (s : State) : Result := bitBit 3 .b 8 s

/-- `BIT 3,C`, `0xCB 0x59` (R263). -/
def execBit3C (s : State) : Result := bitBit 3 .c 8 s

/-- `BIT 3,D`, `0xCB 0x5A` (R263). -/
def execBit3D (s : State) : Result := bitBit 3 .d 8 s

/-- `BIT 3,E`, `0xCB 0x5B` (R263). -/
def execBit3E (s : State) : Result := bitBit 3 .e 8 s

/-- `BIT 3,H`, `0xCB 0x5C` (R263). -/
def execBit3H (s : State) : Result := bitBit 3 .h 8 s

/-- `BIT 3,L`, `0xCB 0x5D` (R263). -/
def execBit3L (s : State) : Result := bitBit 3 .l 8 s

/-- `BIT 3,(HL)`, `0xCB 0x5E` (R263). -/
def execBit3IndHl (s : State) : Result := bitBit 3 .indHl 12 s

/-- `BIT 3,A`, `0xCB 0x5F` (R263). -/
def execBit3A (s : State) : Result := bitBit 3 .a 8 s

/-- `BIT 4,B`, `0xCB 0x60` (R263). -/
def execBit4B (s : State) : Result := bitBit 4 .b 8 s

/-- `BIT 4,C`, `0xCB 0x61` (R263). -/
def execBit4C (s : State) : Result := bitBit 4 .c 8 s

/-- `BIT 4,D`, `0xCB 0x62` (R263). -/
def execBit4D (s : State) : Result := bitBit 4 .d 8 s

/-- `BIT 4,E`, `0xCB 0x63` (R263). -/
def execBit4E (s : State) : Result := bitBit 4 .e 8 s

/-- `BIT 4,H`, `0xCB 0x64` (R263). -/
def execBit4H (s : State) : Result := bitBit 4 .h 8 s

/-- `BIT 4,L`, `0xCB 0x65` (R263). -/
def execBit4L (s : State) : Result := bitBit 4 .l 8 s

/-- `BIT 4,(HL)`, `0xCB 0x66` (R263). -/
def execBit4IndHl (s : State) : Result := bitBit 4 .indHl 12 s

/-- `BIT 4,A`, `0xCB 0x67` (R263). -/
def execBit4A (s : State) : Result := bitBit 4 .a 8 s

/-- `BIT 5,B`, `0xCB 0x68` (R263). -/
def execBit5B (s : State) : Result := bitBit 5 .b 8 s

/-- `BIT 5,C`, `0xCB 0x69` (R263). -/
def execBit5C (s : State) : Result := bitBit 5 .c 8 s

/-- `BIT 5,D`, `0xCB 0x6A` (R263). -/
def execBit5D (s : State) : Result := bitBit 5 .d 8 s

/-- `BIT 5,E`, `0xCB 0x6B` (R263). -/
def execBit5E (s : State) : Result := bitBit 5 .e 8 s

/-- `BIT 5,H`, `0xCB 0x6C` (R263). -/
def execBit5H (s : State) : Result := bitBit 5 .h 8 s

/-- `BIT 5,L`, `0xCB 0x6D` (R263). -/
def execBit5L (s : State) : Result := bitBit 5 .l 8 s

/-- `BIT 5,(HL)`, `0xCB 0x6E` (R263). -/
def execBit5IndHl (s : State) : Result := bitBit 5 .indHl 12 s

/-- `BIT 5,A`, `0xCB 0x6F` (R263). -/
def execBit5A (s : State) : Result := bitBit 5 .a 8 s

/-- `BIT 6,B`, `0xCB 0x70` (R263). -/
def execBit6B (s : State) : Result := bitBit 6 .b 8 s

/-- `BIT 6,C`, `0xCB 0x71` (R263). -/
def execBit6C (s : State) : Result := bitBit 6 .c 8 s

/-- `BIT 6,D`, `0xCB 0x72` (R263). -/
def execBit6D (s : State) : Result := bitBit 6 .d 8 s

/-- `BIT 6,E`, `0xCB 0x73` (R263). -/
def execBit6E (s : State) : Result := bitBit 6 .e 8 s

/-- `BIT 6,H`, `0xCB 0x74` (R263). -/
def execBit6H (s : State) : Result := bitBit 6 .h 8 s

/-- `BIT 6,L`, `0xCB 0x75` (R263). -/
def execBit6L (s : State) : Result := bitBit 6 .l 8 s

/-- `BIT 6,(HL)`, `0xCB 0x76` (R263). -/
def execBit6IndHl (s : State) : Result := bitBit 6 .indHl 12 s

/-- `BIT 6,A`, `0xCB 0x77` (R263). -/
def execBit6A (s : State) : Result := bitBit 6 .a 8 s

/-- `BIT 7,B`, `0xCB 0x78` (R263). -/
def execBit7B (s : State) : Result := bitBit 7 .b 8 s

/-- `BIT 7,C`, `0xCB 0x79` (R263). -/
def execBit7C (s : State) : Result := bitBit 7 .c 8 s

/-- `BIT 7,D`, `0xCB 0x7A` (R263). -/
def execBit7D (s : State) : Result := bitBit 7 .d 8 s

/-- `BIT 7,E`, `0xCB 0x7B` (R263). -/
def execBit7E (s : State) : Result := bitBit 7 .e 8 s

/-- `BIT 7,H`, `0xCB 0x7C` (R263). -/
def execBit7H (s : State) : Result := bitBit 7 .h 8 s

/-- `BIT 7,L`, `0xCB 0x7D` (R263). -/
def execBit7L (s : State) : Result := bitBit 7 .l 8 s

/-- `BIT 7,(HL)`, `0xCB 0x7E` (R263). -/
def execBit7IndHl (s : State) : Result := bitBit 7 .indHl 12 s

/-- `BIT 7,A`, `0xCB 0x7F` (R263). -/
def execBit7A (s : State) : Result := bitBit 7 .a 8 s

/-- `RES 0,B`, `0xCB 0x80` (R264). -/
def execRes0B (s : State) : Result := resBit 0 .b 8 s

/-- `RES 0,C`, `0xCB 0x81` (R264). -/
def execRes0C (s : State) : Result := resBit 0 .c 8 s

/-- `RES 0,D`, `0xCB 0x82` (R264). -/
def execRes0D (s : State) : Result := resBit 0 .d 8 s

/-- `RES 0,E`, `0xCB 0x83` (R264). -/
def execRes0E (s : State) : Result := resBit 0 .e 8 s

/-- `RES 0,H`, `0xCB 0x84` (R264). -/
def execRes0H (s : State) : Result := resBit 0 .h 8 s

/-- `RES 0,L`, `0xCB 0x85` (R264). -/
def execRes0L (s : State) : Result := resBit 0 .l 8 s

/-- `RES 0,(HL)`, `0xCB 0x86` (R264). -/
def execRes0IndHl (s : State) : Result := resBit 0 .indHl 16 s

/-- `RES 0,A`, `0xCB 0x87` (R264). -/
def execRes0A (s : State) : Result := resBit 0 .a 8 s

/-- `RES 1,B`, `0xCB 0x88` (R264). -/
def execRes1B (s : State) : Result := resBit 1 .b 8 s

/-- `RES 1,C`, `0xCB 0x89` (R264). -/
def execRes1C (s : State) : Result := resBit 1 .c 8 s

/-- `RES 1,D`, `0xCB 0x8A` (R264). -/
def execRes1D (s : State) : Result := resBit 1 .d 8 s

/-- `RES 1,E`, `0xCB 0x8B` (R264). -/
def execRes1E (s : State) : Result := resBit 1 .e 8 s

/-- `RES 1,H`, `0xCB 0x8C` (R264). -/
def execRes1H (s : State) : Result := resBit 1 .h 8 s

/-- `RES 1,L`, `0xCB 0x8D` (R264). -/
def execRes1L (s : State) : Result := resBit 1 .l 8 s

/-- `RES 1,(HL)`, `0xCB 0x8E` (R264). -/
def execRes1IndHl (s : State) : Result := resBit 1 .indHl 16 s

/-- `RES 1,A`, `0xCB 0x8F` (R264). -/
def execRes1A (s : State) : Result := resBit 1 .a 8 s

/-- `RES 2,B`, `0xCB 0x90` (R264). -/
def execRes2B (s : State) : Result := resBit 2 .b 8 s

/-- `RES 2,C`, `0xCB 0x91` (R264). -/
def execRes2C (s : State) : Result := resBit 2 .c 8 s

/-- `RES 2,D`, `0xCB 0x92` (R264). -/
def execRes2D (s : State) : Result := resBit 2 .d 8 s

/-- `RES 2,E`, `0xCB 0x93` (R264). -/
def execRes2E (s : State) : Result := resBit 2 .e 8 s

/-- `RES 2,H`, `0xCB 0x94` (R264). -/
def execRes2H (s : State) : Result := resBit 2 .h 8 s

/-- `RES 2,L`, `0xCB 0x95` (R264). -/
def execRes2L (s : State) : Result := resBit 2 .l 8 s

/-- `RES 2,(HL)`, `0xCB 0x96` (R264). -/
def execRes2IndHl (s : State) : Result := resBit 2 .indHl 16 s

/-- `RES 2,A`, `0xCB 0x97` (R264). -/
def execRes2A (s : State) : Result := resBit 2 .a 8 s

/-- `RES 3,B`, `0xCB 0x98` (R264). -/
def execRes3B (s : State) : Result := resBit 3 .b 8 s

/-- `RES 3,C`, `0xCB 0x99` (R264). -/
def execRes3C (s : State) : Result := resBit 3 .c 8 s

/-- `RES 3,D`, `0xCB 0x9A` (R264). -/
def execRes3D (s : State) : Result := resBit 3 .d 8 s

/-- `RES 3,E`, `0xCB 0x9B` (R264). -/
def execRes3E (s : State) : Result := resBit 3 .e 8 s

/-- `RES 3,H`, `0xCB 0x9C` (R264). -/
def execRes3H (s : State) : Result := resBit 3 .h 8 s

/-- `RES 3,L`, `0xCB 0x9D` (R264). -/
def execRes3L (s : State) : Result := resBit 3 .l 8 s

/-- `RES 3,(HL)`, `0xCB 0x9E` (R264). -/
def execRes3IndHl (s : State) : Result := resBit 3 .indHl 16 s

/-- `RES 3,A`, `0xCB 0x9F` (R264). -/
def execRes3A (s : State) : Result := resBit 3 .a 8 s

/-- `RES 4,B`, `0xCB 0xA0` (R264). -/
def execRes4B (s : State) : Result := resBit 4 .b 8 s

/-- `RES 4,C`, `0xCB 0xA1` (R264). -/
def execRes4C (s : State) : Result := resBit 4 .c 8 s

/-- `RES 4,D`, `0xCB 0xA2` (R264). -/
def execRes4D (s : State) : Result := resBit 4 .d 8 s

/-- `RES 4,E`, `0xCB 0xA3` (R264). -/
def execRes4E (s : State) : Result := resBit 4 .e 8 s

/-- `RES 4,H`, `0xCB 0xA4` (R264). -/
def execRes4H (s : State) : Result := resBit 4 .h 8 s

/-- `RES 4,L`, `0xCB 0xA5` (R264). -/
def execRes4L (s : State) : Result := resBit 4 .l 8 s

/-- `RES 4,(HL)`, `0xCB 0xA6` (R264). -/
def execRes4IndHl (s : State) : Result := resBit 4 .indHl 16 s

/-- `RES 4,A`, `0xCB 0xA7` (R264). -/
def execRes4A (s : State) : Result := resBit 4 .a 8 s

/-- `RES 5,B`, `0xCB 0xA8` (R264). -/
def execRes5B (s : State) : Result := resBit 5 .b 8 s

/-- `RES 5,C`, `0xCB 0xA9` (R264). -/
def execRes5C (s : State) : Result := resBit 5 .c 8 s

/-- `RES 5,D`, `0xCB 0xAA` (R264). -/
def execRes5D (s : State) : Result := resBit 5 .d 8 s

/-- `RES 5,E`, `0xCB 0xAB` (R264). -/
def execRes5E (s : State) : Result := resBit 5 .e 8 s

/-- `RES 5,H`, `0xCB 0xAC` (R264). -/
def execRes5H (s : State) : Result := resBit 5 .h 8 s

/-- `RES 5,L`, `0xCB 0xAD` (R264). -/
def execRes5L (s : State) : Result := resBit 5 .l 8 s

/-- `RES 5,(HL)`, `0xCB 0xAE` (R264). -/
def execRes5IndHl (s : State) : Result := resBit 5 .indHl 16 s

/-- `RES 5,A`, `0xCB 0xAF` (R264). -/
def execRes5A (s : State) : Result := resBit 5 .a 8 s

/-- `RES 6,B`, `0xCB 0xB0` (R264). -/
def execRes6B (s : State) : Result := resBit 6 .b 8 s

/-- `RES 6,C`, `0xCB 0xB1` (R264). -/
def execRes6C (s : State) : Result := resBit 6 .c 8 s

/-- `RES 6,D`, `0xCB 0xB2` (R264). -/
def execRes6D (s : State) : Result := resBit 6 .d 8 s

/-- `RES 6,E`, `0xCB 0xB3` (R264). -/
def execRes6E (s : State) : Result := resBit 6 .e 8 s

/-- `RES 6,H`, `0xCB 0xB4` (R264). -/
def execRes6H (s : State) : Result := resBit 6 .h 8 s

/-- `RES 6,L`, `0xCB 0xB5` (R264). -/
def execRes6L (s : State) : Result := resBit 6 .l 8 s

/-- `RES 6,(HL)`, `0xCB 0xB6` (R264). -/
def execRes6IndHl (s : State) : Result := resBit 6 .indHl 16 s

/-- `RES 6,A`, `0xCB 0xB7` (R264). -/
def execRes6A (s : State) : Result := resBit 6 .a 8 s

/-- `RES 7,B`, `0xCB 0xB8` (R264). -/
def execRes7B (s : State) : Result := resBit 7 .b 8 s

/-- `RES 7,C`, `0xCB 0xB9` (R264). -/
def execRes7C (s : State) : Result := resBit 7 .c 8 s

/-- `RES 7,D`, `0xCB 0xBA` (R264). -/
def execRes7D (s : State) : Result := resBit 7 .d 8 s

/-- `RES 7,E`, `0xCB 0xBB` (R264). -/
def execRes7E (s : State) : Result := resBit 7 .e 8 s

/-- `RES 7,H`, `0xCB 0xBC` (R264). -/
def execRes7H (s : State) : Result := resBit 7 .h 8 s

/-- `RES 7,L`, `0xCB 0xBD` (R264). -/
def execRes7L (s : State) : Result := resBit 7 .l 8 s

/-- `RES 7,(HL)`, `0xCB 0xBE` (R264). -/
def execRes7IndHl (s : State) : Result := resBit 7 .indHl 16 s

/-- `RES 7,A`, `0xCB 0xBF` (R264). -/
def execRes7A (s : State) : Result := resBit 7 .a 8 s

/-- `SET 0,B`, `0xCB 0xC0` (R265). -/
def execSet0B (s : State) : Result := setBit 0 .b 8 s

/-- `SET 0,C`, `0xCB 0xC1` (R265). -/
def execSet0C (s : State) : Result := setBit 0 .c 8 s

/-- `SET 0,D`, `0xCB 0xC2` (R265). -/
def execSet0D (s : State) : Result := setBit 0 .d 8 s

/-- `SET 0,E`, `0xCB 0xC3` (R265). -/
def execSet0E (s : State) : Result := setBit 0 .e 8 s

/-- `SET 0,H`, `0xCB 0xC4` (R265). -/
def execSet0H (s : State) : Result := setBit 0 .h 8 s

/-- `SET 0,L`, `0xCB 0xC5` (R265). -/
def execSet0L (s : State) : Result := setBit 0 .l 8 s

/-- `SET 0,(HL)`, `0xCB 0xC6` (R265). -/
def execSet0IndHl (s : State) : Result := setBit 0 .indHl 16 s

/-- `SET 0,A`, `0xCB 0xC7` (R265). -/
def execSet0A (s : State) : Result := setBit 0 .a 8 s

/-- `SET 1,B`, `0xCB 0xC8` (R265). -/
def execSet1B (s : State) : Result := setBit 1 .b 8 s

/-- `SET 1,C`, `0xCB 0xC9` (R265). -/
def execSet1C (s : State) : Result := setBit 1 .c 8 s

/-- `SET 1,D`, `0xCB 0xCA` (R265). -/
def execSet1D (s : State) : Result := setBit 1 .d 8 s

/-- `SET 1,E`, `0xCB 0xCB` (R265). -/
def execSet1E (s : State) : Result := setBit 1 .e 8 s

/-- `SET 1,H`, `0xCB 0xCC` (R265). -/
def execSet1H (s : State) : Result := setBit 1 .h 8 s

/-- `SET 1,L`, `0xCB 0xCD` (R265). -/
def execSet1L (s : State) : Result := setBit 1 .l 8 s

/-- `SET 1,(HL)`, `0xCB 0xCE` (R265). -/
def execSet1IndHl (s : State) : Result := setBit 1 .indHl 16 s

/-- `SET 1,A`, `0xCB 0xCF` (R265). -/
def execSet1A (s : State) : Result := setBit 1 .a 8 s

/-- `SET 2,B`, `0xCB 0xD0` (R265). -/
def execSet2B (s : State) : Result := setBit 2 .b 8 s

/-- `SET 2,C`, `0xCB 0xD1` (R265). -/
def execSet2C (s : State) : Result := setBit 2 .c 8 s

/-- `SET 2,D`, `0xCB 0xD2` (R265). -/
def execSet2D (s : State) : Result := setBit 2 .d 8 s

/-- `SET 2,E`, `0xCB 0xD3` (R265). -/
def execSet2E (s : State) : Result := setBit 2 .e 8 s

/-- `SET 2,H`, `0xCB 0xD4` (R265). -/
def execSet2H (s : State) : Result := setBit 2 .h 8 s

/-- `SET 2,L`, `0xCB 0xD5` (R265). -/
def execSet2L (s : State) : Result := setBit 2 .l 8 s

/-- `SET 2,(HL)`, `0xCB 0xD6` (R265). -/
def execSet2IndHl (s : State) : Result := setBit 2 .indHl 16 s

/-- `SET 2,A`, `0xCB 0xD7` (R265). -/
def execSet2A (s : State) : Result := setBit 2 .a 8 s

/-- `SET 3,B`, `0xCB 0xD8` (R265). -/
def execSet3B (s : State) : Result := setBit 3 .b 8 s

/-- `SET 3,C`, `0xCB 0xD9` (R265). -/
def execSet3C (s : State) : Result := setBit 3 .c 8 s

/-- `SET 3,D`, `0xCB 0xDA` (R265). -/
def execSet3D (s : State) : Result := setBit 3 .d 8 s

/-- `SET 3,E`, `0xCB 0xDB` (R265). -/
def execSet3E (s : State) : Result := setBit 3 .e 8 s

/-- `SET 3,H`, `0xCB 0xDC` (R265). -/
def execSet3H (s : State) : Result := setBit 3 .h 8 s

/-- `SET 3,L`, `0xCB 0xDD` (R265). -/
def execSet3L (s : State) : Result := setBit 3 .l 8 s

/-- `SET 3,(HL)`, `0xCB 0xDE` (R265). -/
def execSet3IndHl (s : State) : Result := setBit 3 .indHl 16 s

/-- `SET 3,A`, `0xCB 0xDF` (R265). -/
def execSet3A (s : State) : Result := setBit 3 .a 8 s

/-- `SET 4,B`, `0xCB 0xE0` (R265). -/
def execSet4B (s : State) : Result := setBit 4 .b 8 s

/-- `SET 4,C`, `0xCB 0xE1` (R265). -/
def execSet4C (s : State) : Result := setBit 4 .c 8 s

/-- `SET 4,D`, `0xCB 0xE2` (R265). -/
def execSet4D (s : State) : Result := setBit 4 .d 8 s

/-- `SET 4,E`, `0xCB 0xE3` (R265). -/
def execSet4E (s : State) : Result := setBit 4 .e 8 s

/-- `SET 4,H`, `0xCB 0xE4` (R265). -/
def execSet4H (s : State) : Result := setBit 4 .h 8 s

/-- `SET 4,L`, `0xCB 0xE5` (R265). -/
def execSet4L (s : State) : Result := setBit 4 .l 8 s

/-- `SET 4,(HL)`, `0xCB 0xE6` (R265). -/
def execSet4IndHl (s : State) : Result := setBit 4 .indHl 16 s

/-- `SET 4,A`, `0xCB 0xE7` (R265). -/
def execSet4A (s : State) : Result := setBit 4 .a 8 s

/-- `SET 5,B`, `0xCB 0xE8` (R265). -/
def execSet5B (s : State) : Result := setBit 5 .b 8 s

/-- `SET 5,C`, `0xCB 0xE9` (R265). -/
def execSet5C (s : State) : Result := setBit 5 .c 8 s

/-- `SET 5,D`, `0xCB 0xEA` (R265). -/
def execSet5D (s : State) : Result := setBit 5 .d 8 s

/-- `SET 5,E`, `0xCB 0xEB` (R265). -/
def execSet5E (s : State) : Result := setBit 5 .e 8 s

/-- `SET 5,H`, `0xCB 0xEC` (R265). -/
def execSet5H (s : State) : Result := setBit 5 .h 8 s

/-- `SET 5,L`, `0xCB 0xED` (R265). -/
def execSet5L (s : State) : Result := setBit 5 .l 8 s

/-- `SET 5,(HL)`, `0xCB 0xEE` (R265). -/
def execSet5IndHl (s : State) : Result := setBit 5 .indHl 16 s

/-- `SET 5,A`, `0xCB 0xEF` (R265). -/
def execSet5A (s : State) : Result := setBit 5 .a 8 s

/-- `SET 6,B`, `0xCB 0xF0` (R265). -/
def execSet6B (s : State) : Result := setBit 6 .b 8 s

/-- `SET 6,C`, `0xCB 0xF1` (R265). -/
def execSet6C (s : State) : Result := setBit 6 .c 8 s

/-- `SET 6,D`, `0xCB 0xF2` (R265). -/
def execSet6D (s : State) : Result := setBit 6 .d 8 s

/-- `SET 6,E`, `0xCB 0xF3` (R265). -/
def execSet6E (s : State) : Result := setBit 6 .e 8 s

/-- `SET 6,H`, `0xCB 0xF4` (R265). -/
def execSet6H (s : State) : Result := setBit 6 .h 8 s

/-- `SET 6,L`, `0xCB 0xF5` (R265). -/
def execSet6L (s : State) : Result := setBit 6 .l 8 s

/-- `SET 6,(HL)`, `0xCB 0xF6` (R265). -/
def execSet6IndHl (s : State) : Result := setBit 6 .indHl 16 s

/-- `SET 6,A`, `0xCB 0xF7` (R265). -/
def execSet6A (s : State) : Result := setBit 6 .a 8 s

/-- `SET 7,B`, `0xCB 0xF8` (R265). -/
def execSet7B (s : State) : Result := setBit 7 .b 8 s

/-- `SET 7,C`, `0xCB 0xF9` (R265). -/
def execSet7C (s : State) : Result := setBit 7 .c 8 s

/-- `SET 7,D`, `0xCB 0xFA` (R265). -/
def execSet7D (s : State) : Result := setBit 7 .d 8 s

/-- `SET 7,E`, `0xCB 0xFB` (R265). -/
def execSet7E (s : State) : Result := setBit 7 .e 8 s

/-- `SET 7,H`, `0xCB 0xFC` (R265). -/
def execSet7H (s : State) : Result := setBit 7 .h 8 s

/-- `SET 7,L`, `0xCB 0xFD` (R265). -/
def execSet7L (s : State) : Result := setBit 7 .l 8 s

/-- `SET 7,(HL)`, `0xCB 0xFE` (R265). -/
def execSet7IndHl (s : State) : Result := setBit 7 .indHl 16 s

/-- `SET 7,A`, `0xCB 0xFF` (R265). -/
def execSet7A (s : State) : Result := setBit 7 .a 8 s

end Sys2Proof.Machine
end

