-- ==== Sys2Proof/Machine/Control.lean ====
section
/-! DEFINITION. Control transfer (45_control R279 to R290). No control transfer changes a flag. PC is past the whole
instruction before a condition is tested (R279). -/

namespace Sys2Proof.Machine

/-- `PC <- t` (R280, R282, R283). -/
def jumpTo (t : Word) (n : Nat) (s : State) : Result := .next ((s.withPc t).took n)

/-- `JP cc,a16` (R281). -/
def jumpIf (cc : Cond) (t : Word) (s : State) : Result :=
  .next (if s.holds cc then (s.withPc t).took 16 else s.took 12)

/-- `JR cc,e8` (R284). -/
def jumpRelativeIf (cc : Cond) (n : Byte) (s : State) : Result :=
  .next (if s.holds cc then (s.withPc (addSext s.cpu.pc n)).took 12 else s.took 8)

/-- `push16(PC)`, then `PC <- t` (R285, R290). -/
def callTo (t : Word) (n : Nat) (s : State) : Result := .next (((push16 s s.cpu.pc).withPc t).took n)

/-- `CALL cc,a16` (R286). -/
def callIf (cc : Cond) (t : Word) (s : State) : Result :=
  .next (if s.holds cc then ((push16 s s.cpu.pc).withPc t).took 24 else s.took 12)

/-- `RET` (R287). -/
def ret (s : State) : Result := .next ((returnToPopped s).took 16)

/-- `RET cc` (R288). -/
def retIf (cc : Cond) (s : State) : Result := .next (if s.holds cc then (returnToPopped s).took 20 else s.took 8)

/-- `RETI` (R289). -/
def retInterrupt (s : State) : Result := .next ((returnFromInterrupt s).took 16)

/-- `JR e8`, `0x18` (R283). -/
def execJrE8 (e8 : Byte) (s : State) : Result := jumpTo (addSext s.cpu.pc e8) 12 s

/-- `JR NZ,e8`, `0x20` (R284). -/
def execJrNzE8 (e8 : Byte) (s : State) : Result := jumpRelativeIf .nz e8 s

/-- `JR Z,e8`, `0x28` (R284). -/
def execJrZE8 (e8 : Byte) (s : State) : Result := jumpRelativeIf .z e8 s

/-- `JR NC,e8`, `0x30` (R284). -/
def execJrNcE8 (e8 : Byte) (s : State) : Result := jumpRelativeIf .nc e8 s

/-- `JR C,e8`, `0x38` (R284). -/
def execJrCE8 (e8 : Byte) (s : State) : Result := jumpRelativeIf .c e8 s

/-- `RET NZ`, `0xC0` (R288). -/
def execRetNz (s : State) : Result := retIf .nz s

/-- `JP NZ,a16`, `0xC2` (R281). -/
def execJpNzA16 (a16 : Word) (s : State) : Result := jumpIf .nz a16 s

/-- `JP a16`, `0xC3` (R280). -/
def execJpA16 (a16 : Word) (s : State) : Result := jumpTo a16 16 s

/-- `CALL NZ,a16`, `0xC4` (R286). -/
def execCallNzA16 (a16 : Word) (s : State) : Result := callIf .nz a16 s

/-- `RST 00h`, `0xC7` (R290). -/
def execRst00 (s : State) : Result := callTo 0x00 16 s

/-- `RET Z`, `0xC8` (R288). -/
def execRetZ (s : State) : Result := retIf .z s

/-- `RET`, `0xC9` (R287). -/
def execRet (s : State) : Result := ret s

/-- `JP Z,a16`, `0xCA` (R281). -/
def execJpZA16 (a16 : Word) (s : State) : Result := jumpIf .z a16 s

/-- `CALL Z,a16`, `0xCC` (R286). -/
def execCallZA16 (a16 : Word) (s : State) : Result := callIf .z a16 s

/-- `CALL a16`, `0xCD` (R285). -/
def execCallA16 (a16 : Word) (s : State) : Result := callTo a16 24 s

/-- `RST 08h`, `0xCF` (R290). -/
def execRst08 (s : State) : Result := callTo 0x08 16 s

/-- `RET NC`, `0xD0` (R288). -/
def execRetNc (s : State) : Result := retIf .nc s

/-- `JP NC,a16`, `0xD2` (R281). -/
def execJpNcA16 (a16 : Word) (s : State) : Result := jumpIf .nc a16 s

/-- `CALL NC,a16`, `0xD4` (R286). -/
def execCallNcA16 (a16 : Word) (s : State) : Result := callIf .nc a16 s

/-- `RST 10h`, `0xD7` (R290). -/
def execRst10 (s : State) : Result := callTo 0x10 16 s

/-- `RET C`, `0xD8` (R288). -/
def execRetC (s : State) : Result := retIf .c s

/-- `RETI`, `0xD9` (R289). -/
def execReti (s : State) : Result := retInterrupt s

/-- `JP C,a16`, `0xDA` (R281). -/
def execJpCA16 (a16 : Word) (s : State) : Result := jumpIf .c a16 s

/-- `CALL C,a16`, `0xDC` (R286). -/
def execCallCA16 (a16 : Word) (s : State) : Result := callIf .c a16 s

/-- `RST 18h`, `0xDF` (R290). -/
def execRst18 (s : State) : Result := callTo 0x18 16 s

/-- `RST 20h`, `0xE7` (R290). -/
def execRst20 (s : State) : Result := callTo 0x20 16 s

/-- `JP HL`, `0xE9` (R282). -/
def execJpHl (s : State) : Result := jumpTo s.hl 4 s

/-- `RST 28h`, `0xEF` (R290). -/
def execRst28 (s : State) : Result := callTo 0x28 16 s

/-- `RST 30h`, `0xF7` (R290). -/
def execRst30 (s : State) : Result := callTo 0x30 16 s

/-- `RST 38h`, `0xFF` (R290). -/
def execRst38 (s : State) : Result := callTo 0x38 16 s

end Sys2Proof.Machine
end

