-- ==== Sys2Proof/Machine/Load16.lean ====
section
/-! DEFINITION. The 16-bit loads and the stack (41_load16_stack R180 to R186). -/

namespace Sys2Proof.Machine

/-- `r16[r] <- v` (R180). -/
def loadR16 (r : R16) (v : Word) (s : State) : Result := .next ((writeR16 s r v).took 12)

/-- SP to memory, low byte first (R181). -/
def storeSp (addr : Word) (s : State) : Result := .next ((writeWord s addr s.cpu.sp).took 20)

/-- `SP <- HL` (R182). -/
def loadSpHl (s : State) : Result := .next ((s.withSp s.hl).took 8)

/-- `HL <- u16(SP + sext_8(n))` with its flags; SP is not changed (R183). -/
def loadHlSpOffset (n : Byte) (s : State) : Result :=
  let (v, x) := spOffsetFlags s.cpu.sp n
  .next (((s.withFlags x).withHl v).took 12)

/-- `push16(r16stk[r])` (R184). -/
def pushStk (r : R16Stk) (s : State) : Result := .next ((push16 s (readStk s r)).took 16)

/-- `r16stk[r] <- pop16()` (R185, R186). -/
def popStk (r : R16Stk) (s : State) : Result := .next ((writeStk (dropWord s) r (topWord s)).took 12)

/-- `LD BC,d16`, `0x01` (R180). -/
def execLdBcD16 (d16 : Word) (s : State) : Result := loadR16 .bc d16 s

/-- `LD (a16),SP`, `0x08` (R181). -/
def execLdIndA16Sp (a16 : Word) (s : State) : Result := storeSp a16 s

/-- `LD DE,d16`, `0x11` (R180). -/
def execLdDeD16 (d16 : Word) (s : State) : Result := loadR16 .de d16 s

/-- `LD HL,d16`, `0x21` (R180). -/
def execLdHlD16 (d16 : Word) (s : State) : Result := loadR16 .hl d16 s

/-- `LD SP,d16`, `0x31` (R180). -/
def execLdSpD16 (d16 : Word) (s : State) : Result := loadR16 .sp d16 s

/-- `POP BC`, `0xC1` (R185). -/
def execPopBc (s : State) : Result := popStk .bc s

/-- `PUSH BC`, `0xC5` (R184). -/
def execPushBc (s : State) : Result := pushStk .bc s

/-- `POP DE`, `0xD1` (R185). -/
def execPopDe (s : State) : Result := popStk .de s

/-- `PUSH DE`, `0xD5` (R184). -/
def execPushDe (s : State) : Result := pushStk .de s

/-- `POP HL`, `0xE1` (R185). -/
def execPopHl (s : State) : Result := popStk .hl s

/-- `PUSH HL`, `0xE5` (R184). -/
def execPushHl (s : State) : Result := pushStk .hl s

/-- `POP AF`, `0xF1` (R186). -/
def execPopAf (s : State) : Result := popStk .af s

/-- `PUSH AF`, `0xF5` (R184). -/
def execPushAf (s : State) : Result := pushStk .af s

/-- `LD HL,SP+e8`, `0xF8` (R183). -/
def execLdHlSpE8 (e8 : Byte) (s : State) : Result := loadHlSpOffset e8 s

/-- `LD SP,HL`, `0xF9` (R182). -/
def execLdSpHl (s : State) : Result := loadSpHl s

end Sys2Proof.Machine
end

