-- ==== Sys2Proof/Machine/Load8.lean ====
section
/-! DEFINITION. The 8-bit loads (40_load8 R150 to R168). No load touches F. -/

namespace Sys2Proof.Machine

/-- `r8[dst] <- r8[src]` (R150, R152, R153); the address HL of an `(HL)` operand is that of before. -/
def loadR8 (dst src : R8) (n : Nat) (s : State) : Result := .next ((writeR8 s dst (readR8 s src)).took n)

/-- `r8[dst] <- v` (R151, R154). -/
def loadR8Imm (dst : R8) (v : Byte) (n : Nat) (s : State) : Result := .next ((writeR8 s dst v).took n)

/-- `A <- MemRead(addr, 1)` (R155, R156, R159, R161, R163). -/
def loadA (addr : Word) (n : Nat) (s : State) : Result := .next ((s.withA (busRead s addr)).took n)

/-- `MemWrite(addr, 1, A)` (R157, R158, R160, R162, R164). -/
def storeA (addr : Word) (n : Nat) (s : State) : Result := .next ((busWrite s addr s.cpu.a).took n)

/-- `A <- MemRead(HL, 1)`, then `HL <- u16(HL + step)`, `step` being 1 or -1 (R165, R167). -/
def loadAThenHl (step : Word) (s : State) : Result := .next (((s.withA (busRead s s.hl)).withHl (s.hl + step)).took 8)

/-- `MemWrite(HL, 1, A)`, then `HL <- u16(HL + step)`, `step` being 1 or -1 (R166, R168). -/
def storeAThenHl (step : Word) (s : State) : Result := .next (((busWrite s s.hl s.cpu.a).withHl (s.hl + step)).took 8)

/-- `LD (BC),A`, `0x02` (R157). -/
def execLdIndBcA (s : State) : Result := storeA s.bc 8 s

/-- `LD B,d8`, `0x06` (R151). -/
def execLdBD8 (d8 : Byte) (s : State) : Result := loadR8Imm .b d8 8 s

/-- `LD A,(BC)`, `0x0A` (R155). -/
def execLdAIndBc (s : State) : Result := loadA s.bc 8 s

/-- `LD C,d8`, `0x0E` (R151). -/
def execLdCD8 (d8 : Byte) (s : State) : Result := loadR8Imm .c d8 8 s

/-- `LD (DE),A`, `0x12` (R158). -/
def execLdIndDeA (s : State) : Result := storeA s.de 8 s

/-- `LD D,d8`, `0x16` (R151). -/
def execLdDD8 (d8 : Byte) (s : State) : Result := loadR8Imm .d d8 8 s

/-- `LD A,(DE)`, `0x1A` (R156). -/
def execLdAIndDe (s : State) : Result := loadA s.de 8 s

/-- `LD E,d8`, `0x1E` (R151). -/
def execLdED8 (d8 : Byte) (s : State) : Result := loadR8Imm .e d8 8 s

/-- `LD (HL+),A`, `0x22` (R168). -/
def execLdIndHlIncA (s : State) : Result := storeAThenHl 1 s

/-- `LD H,d8`, `0x26` (R151). -/
def execLdHD8 (d8 : Byte) (s : State) : Result := loadR8Imm .h d8 8 s

/-- `LD A,(HL+)`, `0x2A` (R167). -/
def execLdAIndHlInc (s : State) : Result := loadAThenHl 1 s

/-- `LD L,d8`, `0x2E` (R151). -/
def execLdLD8 (d8 : Byte) (s : State) : Result := loadR8Imm .l d8 8 s

/-- `LD (HL-),A`, `0x32` (R166). -/
def execLdIndHlDecA (s : State) : Result := storeAThenHl 0xFFFF s

/-- `LD (HL),d8`, `0x36` (R154). -/
def execLdIndHlD8 (d8 : Byte) (s : State) : Result := loadR8Imm .indHl d8 12 s

/-- `LD A,(HL-)`, `0x3A` (R165). -/
def execLdAIndHlDec (s : State) : Result := loadAThenHl 0xFFFF s

/-- `LD A,d8`, `0x3E` (R151). -/
def execLdAD8 (d8 : Byte) (s : State) : Result := loadR8Imm .a d8 8 s

/-- `LD B,B`, `0x40` (R150). -/
def execLdBB (s : State) : Result := loadR8 .b .b 4 s

/-- `LD B,C`, `0x41` (R150). -/
def execLdBC (s : State) : Result := loadR8 .b .c 4 s

/-- `LD B,D`, `0x42` (R150). -/
def execLdBD (s : State) : Result := loadR8 .b .d 4 s

/-- `LD B,E`, `0x43` (R150). -/
def execLdBE (s : State) : Result := loadR8 .b .e 4 s

/-- `LD B,H`, `0x44` (R150). -/
def execLdBH (s : State) : Result := loadR8 .b .h 4 s

/-- `LD B,L`, `0x45` (R150). -/
def execLdBL (s : State) : Result := loadR8 .b .l 4 s

/-- `LD B,(HL)`, `0x46` (R152). -/
def execLdBIndHl (s : State) : Result := loadR8 .b .indHl 8 s

/-- `LD B,A`, `0x47` (R150). -/
def execLdBA (s : State) : Result := loadR8 .b .a 4 s

/-- `LD C,B`, `0x48` (R150). -/
def execLdCB (s : State) : Result := loadR8 .c .b 4 s

/-- `LD C,C`, `0x49` (R150). -/
def execLdCC (s : State) : Result := loadR8 .c .c 4 s

/-- `LD C,D`, `0x4A` (R150). -/
def execLdCD (s : State) : Result := loadR8 .c .d 4 s

/-- `LD C,E`, `0x4B` (R150). -/
def execLdCE (s : State) : Result := loadR8 .c .e 4 s

/-- `LD C,H`, `0x4C` (R150). -/
def execLdCH (s : State) : Result := loadR8 .c .h 4 s

/-- `LD C,L`, `0x4D` (R150). -/
def execLdCL (s : State) : Result := loadR8 .c .l 4 s

/-- `LD C,(HL)`, `0x4E` (R152). -/
def execLdCIndHl (s : State) : Result := loadR8 .c .indHl 8 s

/-- `LD C,A`, `0x4F` (R150). -/
def execLdCA (s : State) : Result := loadR8 .c .a 4 s

/-- `LD D,B`, `0x50` (R150). -/
def execLdDB (s : State) : Result := loadR8 .d .b 4 s

/-- `LD D,C`, `0x51` (R150). -/
def execLdDC (s : State) : Result := loadR8 .d .c 4 s

/-- `LD D,D`, `0x52` (R150). -/
def execLdDD (s : State) : Result := loadR8 .d .d 4 s

/-- `LD D,E`, `0x53` (R150). -/
def execLdDE (s : State) : Result := loadR8 .d .e 4 s

/-- `LD D,H`, `0x54` (R150). -/
def execLdDH (s : State) : Result := loadR8 .d .h 4 s

/-- `LD D,L`, `0x55` (R150). -/
def execLdDL (s : State) : Result := loadR8 .d .l 4 s

/-- `LD D,(HL)`, `0x56` (R152). -/
def execLdDIndHl (s : State) : Result := loadR8 .d .indHl 8 s

/-- `LD D,A`, `0x57` (R150). -/
def execLdDA (s : State) : Result := loadR8 .d .a 4 s

/-- `LD E,B`, `0x58` (R150). -/
def execLdEB (s : State) : Result := loadR8 .e .b 4 s

/-- `LD E,C`, `0x59` (R150). -/
def execLdEC (s : State) : Result := loadR8 .e .c 4 s

/-- `LD E,D`, `0x5A` (R150). -/
def execLdED (s : State) : Result := loadR8 .e .d 4 s

/-- `LD E,E`, `0x5B` (R150). -/
def execLdEE (s : State) : Result := loadR8 .e .e 4 s

/-- `LD E,H`, `0x5C` (R150). -/
def execLdEH (s : State) : Result := loadR8 .e .h 4 s

/-- `LD E,L`, `0x5D` (R150). -/
def execLdEL (s : State) : Result := loadR8 .e .l 4 s

/-- `LD E,(HL)`, `0x5E` (R152). -/
def execLdEIndHl (s : State) : Result := loadR8 .e .indHl 8 s

/-- `LD E,A`, `0x5F` (R150). -/
def execLdEA (s : State) : Result := loadR8 .e .a 4 s

/-- `LD H,B`, `0x60` (R150). -/
def execLdHB (s : State) : Result := loadR8 .h .b 4 s

/-- `LD H,C`, `0x61` (R150). -/
def execLdHC (s : State) : Result := loadR8 .h .c 4 s

/-- `LD H,D`, `0x62` (R150). -/
def execLdHD (s : State) : Result := loadR8 .h .d 4 s

/-- `LD H,E`, `0x63` (R150). -/
def execLdHE (s : State) : Result := loadR8 .h .e 4 s

/-- `LD H,H`, `0x64` (R150). -/
def execLdHH (s : State) : Result := loadR8 .h .h 4 s

/-- `LD H,L`, `0x65` (R150). -/
def execLdHL (s : State) : Result := loadR8 .h .l 4 s

/-- `LD H,(HL)`, `0x66` (R152). -/
def execLdHIndHl (s : State) : Result := loadR8 .h .indHl 8 s

/-- `LD H,A`, `0x67` (R150). -/
def execLdHA (s : State) : Result := loadR8 .h .a 4 s

/-- `LD L,B`, `0x68` (R150). -/
def execLdLB (s : State) : Result := loadR8 .l .b 4 s

/-- `LD L,C`, `0x69` (R150). -/
def execLdLC (s : State) : Result := loadR8 .l .c 4 s

/-- `LD L,D`, `0x6A` (R150). -/
def execLdLD (s : State) : Result := loadR8 .l .d 4 s

/-- `LD L,E`, `0x6B` (R150). -/
def execLdLE (s : State) : Result := loadR8 .l .e 4 s

/-- `LD L,H`, `0x6C` (R150). -/
def execLdLH (s : State) : Result := loadR8 .l .h 4 s

/-- `LD L,L`, `0x6D` (R150). -/
def execLdLL (s : State) : Result := loadR8 .l .l 4 s

/-- `LD L,(HL)`, `0x6E` (R152). -/
def execLdLIndHl (s : State) : Result := loadR8 .l .indHl 8 s

/-- `LD L,A`, `0x6F` (R150). -/
def execLdLA (s : State) : Result := loadR8 .l .a 4 s

/-- `LD (HL),B`, `0x70` (R153). -/
def execLdIndHlB (s : State) : Result := loadR8 .indHl .b 8 s

/-- `LD (HL),C`, `0x71` (R153). -/
def execLdIndHlC (s : State) : Result := loadR8 .indHl .c 8 s

/-- `LD (HL),D`, `0x72` (R153). -/
def execLdIndHlD (s : State) : Result := loadR8 .indHl .d 8 s

/-- `LD (HL),E`, `0x73` (R153). -/
def execLdIndHlE (s : State) : Result := loadR8 .indHl .e 8 s

/-- `LD (HL),H`, `0x74` (R153). -/
def execLdIndHlH (s : State) : Result := loadR8 .indHl .h 8 s

/-- `LD (HL),L`, `0x75` (R153). -/
def execLdIndHlL (s : State) : Result := loadR8 .indHl .l 8 s

/-- `LD (HL),A`, `0x77` (R153). -/
def execLdIndHlA (s : State) : Result := loadR8 .indHl .a 8 s

/-- `LD A,B`, `0x78` (R150). -/
def execLdAB (s : State) : Result := loadR8 .a .b 4 s

/-- `LD A,C`, `0x79` (R150). -/
def execLdAC (s : State) : Result := loadR8 .a .c 4 s

/-- `LD A,D`, `0x7A` (R150). -/
def execLdAD (s : State) : Result := loadR8 .a .d 4 s

/-- `LD A,E`, `0x7B` (R150). -/
def execLdAE (s : State) : Result := loadR8 .a .e 4 s

/-- `LD A,H`, `0x7C` (R150). -/
def execLdAH (s : State) : Result := loadR8 .a .h 4 s

/-- `LD A,L`, `0x7D` (R150). -/
def execLdAL (s : State) : Result := loadR8 .a .l 4 s

/-- `LD A,(HL)`, `0x7E` (R152). -/
def execLdAIndHl (s : State) : Result := loadR8 .a .indHl 8 s

/-- `LD A,A`, `0x7F` (R150). -/
def execLdAA (s : State) : Result := loadR8 .a .a 4 s

/-- `LDH (a8),A`, `0xE0` (R164). -/
def execLdhIndA8A (a8 : Byte) (s : State) : Result := storeA (highPage a8) 12 s

/-- `LDH (C),A`, `0xE2` (R162). -/
def execLdhIndCA (s : State) : Result := storeA (highPage s.cpu.c) 8 s

/-- `LD (a16),A`, `0xEA` (R160). -/
def execLdIndA16A (a16 : Word) (s : State) : Result := storeA a16 16 s

/-- `LDH A,(a8)`, `0xF0` (R163). -/
def execLdhAIndA8 (a8 : Byte) (s : State) : Result := loadA (highPage a8) 12 s

/-- `LDH A,(C)`, `0xF2` (R161). -/
def execLdhAIndC (s : State) : Result := loadA (highPage s.cpu.c) 8 s

/-- `LD A,(a16)`, `0xFA` (R159). -/
def execLdAIndA16 (a16 : Word) (s : State) : Result := loadA a16 16 s

end Sys2Proof.Machine
end

