-- ==== Sys2Proof/Machine/Rotate.lean ====
section
/-! DEFINITION. The accumulator rotates and the secondary table's rotates and shifts (44_rotate_shift_bit R250 to R262). -/

namespace Sys2Proof.Machine

/-- An accumulator rotate: as the secondary rotate of A, but Z always cleared (R250 to R253). -/
def rotateA (op : RotOp) (s : State) : Result :=
  let (r, c) := rotate op s.cpu.a s.flagC
  .next (((s.withFlags { z := false, n := false, h := false, c := c }).withA r).took 4)

/-- A rotate or shift of `r8[r]`: read, compute, write back (R254 to R262). -/
def rotateR8 (op : RotOp) (r : R8) (n : Nat) (s : State) : Result :=
  let (v, x) := rotateFlags op (readR8 s r) s.flagC
  .next ((writeR8 (s.withFlags x) r v).took n)

/-- `RLCA`, `0x07` (R250). -/
def execRlca (s : State) : Result := rotateA .rlc s

/-- `RRCA`, `0x0F` (R251). -/
def execRrca (s : State) : Result := rotateA .rrc s

/-- `RLA`, `0x17` (R252). -/
def execRla (s : State) : Result := rotateA .rl s

/-- `RRA`, `0x1F` (R253). -/
def execRra (s : State) : Result := rotateA .rr s

/-- `RLC B`, `0xCB 0x00` (R255). -/
def execRlcB (s : State) : Result := rotateR8 .rlc .b 8 s

/-- `RLC C`, `0xCB 0x01` (R255). -/
def execRlcC (s : State) : Result := rotateR8 .rlc .c 8 s

/-- `RLC D`, `0xCB 0x02` (R255). -/
def execRlcD (s : State) : Result := rotateR8 .rlc .d 8 s

/-- `RLC E`, `0xCB 0x03` (R255). -/
def execRlcE (s : State) : Result := rotateR8 .rlc .e 8 s

/-- `RLC H`, `0xCB 0x04` (R255). -/
def execRlcH (s : State) : Result := rotateR8 .rlc .h 8 s

/-- `RLC L`, `0xCB 0x05` (R255). -/
def execRlcL (s : State) : Result := rotateR8 .rlc .l 8 s

/-- `RLC (HL)`, `0xCB 0x06` (R255). -/
def execRlcIndHl (s : State) : Result := rotateR8 .rlc .indHl 16 s

/-- `RLC A`, `0xCB 0x07` (R255). -/
def execRlcA (s : State) : Result := rotateR8 .rlc .a 8 s

/-- `RRC B`, `0xCB 0x08` (R256). -/
def execRrcB (s : State) : Result := rotateR8 .rrc .b 8 s

/-- `RRC C`, `0xCB 0x09` (R256). -/
def execRrcC (s : State) : Result := rotateR8 .rrc .c 8 s

/-- `RRC D`, `0xCB 0x0A` (R256). -/
def execRrcD (s : State) : Result := rotateR8 .rrc .d 8 s

/-- `RRC E`, `0xCB 0x0B` (R256). -/
def execRrcE (s : State) : Result := rotateR8 .rrc .e 8 s

/-- `RRC H`, `0xCB 0x0C` (R256). -/
def execRrcH (s : State) : Result := rotateR8 .rrc .h 8 s

/-- `RRC L`, `0xCB 0x0D` (R256). -/
def execRrcL (s : State) : Result := rotateR8 .rrc .l 8 s

/-- `RRC (HL)`, `0xCB 0x0E` (R256). -/
def execRrcIndHl (s : State) : Result := rotateR8 .rrc .indHl 16 s

/-- `RRC A`, `0xCB 0x0F` (R256). -/
def execRrcA (s : State) : Result := rotateR8 .rrc .a 8 s

/-- `RL B`, `0xCB 0x10` (R257). -/
def execRlB (s : State) : Result := rotateR8 .rl .b 8 s

/-- `RL C`, `0xCB 0x11` (R257). -/
def execRlC (s : State) : Result := rotateR8 .rl .c 8 s

/-- `RL D`, `0xCB 0x12` (R257). -/
def execRlD (s : State) : Result := rotateR8 .rl .d 8 s

/-- `RL E`, `0xCB 0x13` (R257). -/
def execRlE (s : State) : Result := rotateR8 .rl .e 8 s

/-- `RL H`, `0xCB 0x14` (R257). -/
def execRlH (s : State) : Result := rotateR8 .rl .h 8 s

/-- `RL L`, `0xCB 0x15` (R257). -/
def execRlL (s : State) : Result := rotateR8 .rl .l 8 s

/-- `RL (HL)`, `0xCB 0x16` (R257). -/
def execRlIndHl (s : State) : Result := rotateR8 .rl .indHl 16 s

/-- `RL A`, `0xCB 0x17` (R257). -/
def execRlA (s : State) : Result := rotateR8 .rl .a 8 s

/-- `RR B`, `0xCB 0x18` (R258). -/
def execRrB (s : State) : Result := rotateR8 .rr .b 8 s

/-- `RR C`, `0xCB 0x19` (R258). -/
def execRrC (s : State) : Result := rotateR8 .rr .c 8 s

/-- `RR D`, `0xCB 0x1A` (R258). -/
def execRrD (s : State) : Result := rotateR8 .rr .d 8 s

/-- `RR E`, `0xCB 0x1B` (R258). -/
def execRrE (s : State) : Result := rotateR8 .rr .e 8 s

/-- `RR H`, `0xCB 0x1C` (R258). -/
def execRrH (s : State) : Result := rotateR8 .rr .h 8 s

/-- `RR L`, `0xCB 0x1D` (R258). -/
def execRrL (s : State) : Result := rotateR8 .rr .l 8 s

/-- `RR (HL)`, `0xCB 0x1E` (R258). -/
def execRrIndHl (s : State) : Result := rotateR8 .rr .indHl 16 s

/-- `RR A`, `0xCB 0x1F` (R258). -/
def execRrA (s : State) : Result := rotateR8 .rr .a 8 s

/-- `SLA B`, `0xCB 0x20` (R259). -/
def execSlaB (s : State) : Result := rotateR8 .sla .b 8 s

/-- `SLA C`, `0xCB 0x21` (R259). -/
def execSlaC (s : State) : Result := rotateR8 .sla .c 8 s

/-- `SLA D`, `0xCB 0x22` (R259). -/
def execSlaD (s : State) : Result := rotateR8 .sla .d 8 s

/-- `SLA E`, `0xCB 0x23` (R259). -/
def execSlaE (s : State) : Result := rotateR8 .sla .e 8 s

/-- `SLA H`, `0xCB 0x24` (R259). -/
def execSlaH (s : State) : Result := rotateR8 .sla .h 8 s

/-- `SLA L`, `0xCB 0x25` (R259). -/
def execSlaL (s : State) : Result := rotateR8 .sla .l 8 s

/-- `SLA (HL)`, `0xCB 0x26` (R259). -/
def execSlaIndHl (s : State) : Result := rotateR8 .sla .indHl 16 s

/-- `SLA A`, `0xCB 0x27` (R259). -/
def execSlaA (s : State) : Result := rotateR8 .sla .a 8 s

/-- `SRA B`, `0xCB 0x28` (R260). -/
def execSraB (s : State) : Result := rotateR8 .sra .b 8 s

/-- `SRA C`, `0xCB 0x29` (R260). -/
def execSraC (s : State) : Result := rotateR8 .sra .c 8 s

/-- `SRA D`, `0xCB 0x2A` (R260). -/
def execSraD (s : State) : Result := rotateR8 .sra .d 8 s

/-- `SRA E`, `0xCB 0x2B` (R260). -/
def execSraE (s : State) : Result := rotateR8 .sra .e 8 s

/-- `SRA H`, `0xCB 0x2C` (R260). -/
def execSraH (s : State) : Result := rotateR8 .sra .h 8 s

/-- `SRA L`, `0xCB 0x2D` (R260). -/
def execSraL (s : State) : Result := rotateR8 .sra .l 8 s

/-- `SRA (HL)`, `0xCB 0x2E` (R260). -/
def execSraIndHl (s : State) : Result := rotateR8 .sra .indHl 16 s

/-- `SRA A`, `0xCB 0x2F` (R260). -/
def execSraA (s : State) : Result := rotateR8 .sra .a 8 s

/-- `SWAP B`, `0xCB 0x30` (R261). -/
def execSwapB (s : State) : Result := rotateR8 .swap .b 8 s

/-- `SWAP C`, `0xCB 0x31` (R261). -/
def execSwapC (s : State) : Result := rotateR8 .swap .c 8 s

/-- `SWAP D`, `0xCB 0x32` (R261). -/
def execSwapD (s : State) : Result := rotateR8 .swap .d 8 s

/-- `SWAP E`, `0xCB 0x33` (R261). -/
def execSwapE (s : State) : Result := rotateR8 .swap .e 8 s

/-- `SWAP H`, `0xCB 0x34` (R261). -/
def execSwapH (s : State) : Result := rotateR8 .swap .h 8 s

/-- `SWAP L`, `0xCB 0x35` (R261). -/
def execSwapL (s : State) : Result := rotateR8 .swap .l 8 s

/-- `SWAP (HL)`, `0xCB 0x36` (R261). -/
def execSwapIndHl (s : State) : Result := rotateR8 .swap .indHl 16 s

/-- `SWAP A`, `0xCB 0x37` (R261). -/
def execSwapA (s : State) : Result := rotateR8 .swap .a 8 s

/-- `SRL B`, `0xCB 0x38` (R262). -/
def execSrlB (s : State) : Result := rotateR8 .srl .b 8 s

/-- `SRL C`, `0xCB 0x39` (R262). -/
def execSrlC (s : State) : Result := rotateR8 .srl .c 8 s

/-- `SRL D`, `0xCB 0x3A` (R262). -/
def execSrlD (s : State) : Result := rotateR8 .srl .d 8 s

/-- `SRL E`, `0xCB 0x3B` (R262). -/
def execSrlE (s : State) : Result := rotateR8 .srl .e 8 s

/-- `SRL H`, `0xCB 0x3C` (R262). -/
def execSrlH (s : State) : Result := rotateR8 .srl .h 8 s

/-- `SRL L`, `0xCB 0x3D` (R262). -/
def execSrlL (s : State) : Result := rotateR8 .srl .l 8 s

/-- `SRL (HL)`, `0xCB 0x3E` (R262). -/
def execSrlIndHl (s : State) : Result := rotateR8 .srl .indHl 16 s

/-- `SRL A`, `0xCB 0x3F` (R262). -/
def execSrlA (s : State) : Result := rotateR8 .srl .a 8 s

end Sys2Proof.Machine
end

