-- ==== Sys2Proof/Machine/Secondary.lean ====
section
/-! DEFINITION. The meaning of the row 0xCB itself, the prefix: fetch a second opcode byte and execute the instruction of
the secondary table it selects, by its fields (30_encoding R135, 46_system R305; log 6). -/

namespace Sys2Proof.Machine

/-- `rot[y]` (30_encoding R128). -/
def rotOfIndex (y : Nat) : RotOp :=
  match y with
  | 0 => .rlc | 1 => .rrc | 2 => .rl | 3 => .rr | 4 => .sla | 5 => .sra | 6 => .swap | _ => .srl

/-- The instruction of the secondary table selected by `op2`, by its fields x, y, z (30_encoding R123, R135). -/
def execSecondary (op2 : Byte) (s : State) : Result :=
  let y := op2.toNat / 8 % 8
  let r := r8OfIndex (op2.extractLsb' 0 3)
  match op2.toNat / 64 with
  | 0 => rotateR8 (rotOfIndex y) r (if r = .indHl then 16 else 8) s
  | 1 => bitBit y r (if r = .indHl then 12 else 8) s
  | 2 => resBit y r (if r = .indHl then 16 else 8) s
  | _ => setBit y r (if r = .indHl then 16 else 8) s

/-- `op2 <- fetch8()`, then the instruction `op2` selects (46_system R305). -/
def fetchSecondary (s : State) : Result := execSecondary (fetchByte s) (skipBytes s 1)

/-- `PREFIX CB`, `0xCB` (R305). -/
def execPrefixCb (s : State) : Result := fetchSecondary s

end Sys2Proof.Machine
end

