-- ==== Sys2Proof/Machine/System.lean ====
section
/-! DEFINITION. System instructions and the illegal opcodes (46_system R300 to R304, R306). -/

namespace Sys2Proof.Machine

/-- Nothing but the cycles (R300, R306). -/
def noOperation (n : Nat) (s : State) : Result := .next (s.took n)

/-- `halted <- 1` (R301). -/
def enterHalt (s : State) : Result := .next (State.took { s with cpu := { s.cpu with halted := true } } 4)

/-- `stopped <- 1`; the byte after the opcode has been fetched and is ignored (R302). -/
def enterStop (s : State) : Result := .next (State.took { s with cpu := { s.cpu with stopped := true } } 4)

/-- `IME <- 0; ime_pending <- 0` (R303). -/
def disableInterrupts (s : State) : Result :=
  .next (State.took { s with irq := { s.irq with ime := false, imePending := false } } 4)

/-- `ime_pending <- 1`; IME itself is not changed (R304). -/
def enableInterrupts (s : State) : Result := .next (State.took { s with irq := { s.irq with imePending := true } } 4)

/-- `NOP`, `0x00` (R300). -/
def execNop (s : State) : Result := noOperation 4 s

/-- `STOP`, `0x10` (R302). -/
def execStop (_pad : Byte) (s : State) : Result := enterStop s

/-- `HALT`, `0x76` (R301). -/
def execHalt (s : State) : Result := enterHalt s

/-- `ILLEGAL_D3`, `0xD3` (R306). -/
def execIllegalD3 (s : State) : Result := noOperation Config.illegalOpcodeCost s

/-- `ILLEGAL_DB`, `0xDB` (R306). -/
def execIllegalDB (s : State) : Result := noOperation Config.illegalOpcodeCost s

/-- `ILLEGAL_DD`, `0xDD` (R306). -/
def execIllegalDD (s : State) : Result := noOperation Config.illegalOpcodeCost s

/-- `ILLEGAL_E3`, `0xE3` (R306). -/
def execIllegalE3 (s : State) : Result := noOperation Config.illegalOpcodeCost s

/-- `ILLEGAL_E4`, `0xE4` (R306). -/
def execIllegalE4 (s : State) : Result := noOperation Config.illegalOpcodeCost s

/-- `ILLEGAL_EB`, `0xEB` (R306). -/
def execIllegalEB (s : State) : Result := noOperation Config.illegalOpcodeCost s

/-- `ILLEGAL_EC`, `0xEC` (R306). -/
def execIllegalEC (s : State) : Result := noOperation Config.illegalOpcodeCost s

/-- `ILLEGAL_ED`, `0xED` (R306). -/
def execIllegalED (s : State) : Result := noOperation Config.illegalOpcodeCost s

/-- `DI`, `0xF3` (R303). -/
def execDi (s : State) : Result := disableInterrupts s

/-- `ILLEGAL_F4`, `0xF4` (R306). -/
def execIllegalF4 (s : State) : Result := noOperation Config.illegalOpcodeCost s

/-- `EI`, `0xFB` (R304). -/
def execEi (s : State) : Result := enableInterrupts s

/-- `ILLEGAL_FC`, `0xFC` (R306). -/
def execIllegalFC (s : State) : Result := noOperation Config.illegalOpcodeCost s

/-- `ILLEGAL_FD`, `0xFD` (R306). -/
def execIllegalFD (s : State) : Result := noOperation Config.illegalOpcodeCost s

end Sys2Proof.Machine
end

