-- ==== Sys2Proof/Machine/CpuStep.lean ====
section
/-! DEFINITION. The CPU step (60_exceptions R330), the system step around it (R340), reset by the host
(70_reset_and_hazards R460), and the placing of an instruction where the next step fetches it. -/

namespace Sys2Proof.Machine

/-- The byte of the instruction stream `n` bytes after PC (10_state R26). -/
def streamByte (s : State) (n : Nat) : Byte := busRead s (s.cpu.pc + BitVec.ofNat 16 n)

/-- The instruction at PC (log 8: its bytes are read together, before it executes). -/
def instrAtPc (s : State) : Instr := decodeBytes (streamByte s 0) (streamByte s 1) (streamByte s 2)

/-- PC past the instruction at PC (00_scope R9, 10_state R26). -/
def pastInstr (s : State) : State := skipBytes s (instrLength (streamByte s 0))

/-- Point 5 of the CPU step: a pending enable takes effect (60_exceptions R330, R331). -/
def applyPendingEnable (s : State) : State :=
  if s.irq.imePending then { s with irq := { s.irq with ime := true, imePending := false } } else s

/-- Points 5 and 6 of the CPU step: the pending enable, then fetch and execute (60_exceptions R330). -/
def runInstr (s : State) : Result :=
  let t := applyPendingEnable s
  exec (instrAtPc t) (pastInstr t)

/-- The halted state left (60_exceptions R330 point 3, R336). -/
def wake (s : State) : State := { s with cpu := { s.cpu with halted := false } }

/-- Points 2 to 6 of the CPU step (60_exceptions R330): the interrupt check, then idling, a dispatch, or an instruction. -/
def checkAndRun (s : State) : Result :=
  match s.pending with
  | none => if s.cpu.halted then .next (s.took Config.haltIdleCost) else runInstr s
  | some k => if s.irq.ime then .next (dispatch (wake s) k) else runInstr (wake s)

/-- `CPU.step()` (60_exceptions R330); the cycles it returns are the field `cycles`. -/
def cpuStep (s : State) : Result :=
  if s.cpu.stopped then .next (s.took Config.stopIdleCost) else checkAndRun s

/-- The host's argument of this system step: the next of `inputs`, or the buttons as they are when none is listed
(60_exceptions R340, R341; log 1). -/
def nextButtons (s : State) : Byte := s.inputs.headD s.joypad.buttons

/-- The joypad change applied at the start of the system step (60_exceptions R340, 20_memory R81). -/
def takeInput (s : State) : State := pressButtons (nextButtons s) { s with inputs := s.inputs.tail }

/-- The timer, then the PPU, advanced by the cycles the CPU step returned (60_exceptions R340). -/
def advanceDevices (s : State) : State := ppuStep s.cycles (timerStep s.cycles s)

/-- `System.step(buttons_now)` (60_exceptions R340). -/
def systemStep (s : State) : Result :=
  match cpuStep (takeInput s) with
  | .next t => .next (advanceDevices t)
  | .fault r => .fault r
  | .refused r => .refused r

/-- `reset()` by the host, between two steps: every element of CORE's state as in the reset table, the cartridge left as
it is (70_reset_and_hazards R460); the host's future inputs are its own (log 1). -/
def hostReset (s : State) : State := { State.reset with cart := s.cart, inputs := s.inputs }

/-- Puts a byte where a fetch at `addr` reads it: into the ROM or the plain storage that owns `addr`; an address with no
storage behind it is left alone (log 8). -/
def placeByte (s : State) (addr : Word) (v : Byte) : State :=
  match owner addr with
  | .cartRom => { s with cart := { s.cart with rom := s.cart.rom.write addr.toNat v } }
  | .store k => { s with mem := s.mem.write k v }
  | _ => s

/-- Puts bytes from `addr` upwards. -/
def placeBytes : List Byte → Word → State → State
  | [], _, s => s
  | v :: vs, addr, s => placeBytes vs (addr + 1) (placeByte s addr v)

/-- The CPU neither halted nor stopped, and IME off if a dispatch would come before the fetch of the next step (log 8). -/
def readyToFetch (s : State) : State :=
  { s with
    cpu := { s.cpu with halted := false, stopped := false }
    irq := { s.irq with ime := s.irq.ime && (takeInput s).pending.isNone } }

/-- `s` with the instruction of `nbits` bits `w` placed at PC, so that the next step fetches and runs it (log 8). -/
def placeTableWord (s : State) (nbits w : Nat) : State := readyToFetch (placeBytes (tableBytes nbits w) s.cpu.pc s)

end Sys2Proof.Machine
end

