-- ==== Sys2Proof/Machine/Step.lean ====
section
/-! DEFINITION. One step of the machine is one system step (60_exceptions R340, R341). -/

namespace Sys2Proof.Machine

/-- One system step: the joypad change, the CPU step, the timer and the PPU by its cycles (60_exceptions R340). -/
def step (s : State) : Host.Outcome State Fault Refusal := systemStep s

/-- `s` with an instruction placed where `step` fetches its next one (log 8). -/
def State.withFetchWord (s : State) (nbits w : Nat) : State := placeTableWord s nbits w

end Sys2Proof.Machine
end

