-- ==== Sys2Proof/Safety.lean ====
section
/-! DEFINITION. What counts as a safe run: CORE's step is infallible (60_exceptions R320), so a step is safe when it
answers a next state; and the quiescent states of 60_exceptions R342. -/

namespace Sys2Proof.Safety

open Sys2Proof.Machine

/-- A step from `s` goes on: it neither faults nor is refused. -/
def Goes (s : State) : Prop := ∃ t, step s = .next t

/-- A quiescent state, which may stand for the end of a run (60_exceptions R342). -/
def Quiescent (s : State) : Prop := s.cpu.halted = true ∨ s.cpu.stopped = true

/-- The mode budgets of the PPU: within-mode cycles below the mode's length, the scanline in range (10_state R36). -/
def PpuInBudget (p : Ppu) : Prop :=
  p.ly.toNat ≤ 153 ∧
  match p.mode with
  | .oamSearch => p.dot < Config.oamSearchLen ∧ p.ly.toNat < 144
  | .pixelTransfer => p.dot < Config.pixelTransferLen ∧ p.ly.toNat < 144
  | .hBlank => p.dot < Config.hblankLen ∧ p.ly.toNat < 144
  | .vBlank => p.dot < Config.scanlineLen

/-- With the LCD off the PPU rests at line 0 in mode 0 (62_ppu R433). -/
def PpuOffAtRest (p : Ppu) : Prop :=
  bit p.lcdc 7 = false → p.ly = 0 ∧ p.dot = 0 ∧ p.mode = .hBlank ∧ p.statLine = false

/-- The legal states: F's low nibble is 0 (10_state R24), both memories are in canonical form and list only addresses
that they back, the PPU is within its budgets (10_state R36) and at rest when off (62_ppu R433), and the reload window is
0 to 4 (10_state R34). -/
structure Legal (s : State) : Prop where
  flagsLow : s.cpu.f &&& 0x0F = 0
  memCanonical : s.mem.wf
  romCanonical : s.cart.rom.wf
  memBacked : ∀ c ∈ s.mem, owner (BitVec.ofNat 16 c.1) = .store c.1 ∧ c.1 < 0x10000
  romBacked : ∀ c ∈ s.cart.rom, c.1 < 0x8000
  ppuInBudget : PpuInBudget s.ppu
  ppuOff : PpuOffAtRest s.ppu
  reloadWindow : s.timer.reloadDelay ≤ Config.timaReloadDelay

end Sys2Proof.Safety
end

