-- ==== Sys2Proof/Certificates/Slice0/Obligations.lean ====
section
/-! DEFINITION. The statements about this model, and before them their vocabulary: the instructions of a family by their
operands, the columns of the opcode tables, the registers and addresses an instruction writes, and the shapes of the next
states. An instruction executes with PC past its bytes (00_scope R9), so `s.cpu.pc` in the statements below is the address of
the byte after it. -/

namespace Sys2Proof.Claims

open Sys2Proof Sys2Proof.Machine

/-! The instructions of a family by their operands, from the opcode tables (30_encoding R130, R131, R135). -/

/-- The index of an `r8` operand (30_encoding R124). -/
def code : R8 → Byte
  | .b => 0 | .c => 1 | .d => 2 | .e => 3 | .h => 4 | .l => 5 | .indHl => 6 | .a => 7

/-- The index of an `r16` operand (30_encoding R125). -/
def pairCode : R16 → Byte
  | .bc => 0 | .de => 1 | .hl => 2 | .sp => 3

/-- The index of an `r16stk` operand (30_encoding R126). -/
def stkCode : R16Stk → Byte
  | .bc => 0 | .de => 1 | .hl => 2 | .af => 3

/-- The index of a condition (30_encoding R127). -/
def condCode : Cond → Byte
  | .nz => 0 | .z => 1 | .nc => 2 | .c => 3

/-- The index of an ALU operation (30_encoding R128). -/
def aluCode : AluOp → Byte
  | .add => 0 | .adc => 1 | .sub => 2 | .sbc => 3 | .and => 4 | .xor => 5 | .or => 6 | .cp => 7

/-- The index of a rotate or shift (30_encoding R128). -/
def rotCode : RotOp → Byte
  | .rlc => 0 | .rrc => 1 | .rl => 2 | .rr => 3 | .sla => 4 | .sra => 5 | .swap => 6 | .srl => 7

/-- `LD dst,src`; `(HL),(HL)` is the place of HALT (40_load8 R150, R152, R153; 46_system R301). -/
def loadOf : R8 → R8 → Instr
  | .b, .b => .ldBB | .b, .c => .ldBC | .b, .d => .ldBD | .b, .e => .ldBE
  | .b, .h => .ldBH | .b, .l => .ldBL | .b, .indHl => .ldBIndHl | .b, .a => .ldBA
  | .c, .b => .ldCB | .c, .c => .ldCC | .c, .d => .ldCD | .c, .e => .ldCE
  | .c, .h => .ldCH | .c, .l => .ldCL | .c, .indHl => .ldCIndHl | .c, .a => .ldCA
  | .d, .b => .ldDB | .d, .c => .ldDC | .d, .d => .ldDD | .d, .e => .ldDE
  | .d, .h => .ldDH | .d, .l => .ldDL | .d, .indHl => .ldDIndHl | .d, .a => .ldDA
  | .e, .b => .ldEB | .e, .c => .ldEC | .e, .d => .ldED | .e, .e => .ldEE
  | .e, .h => .ldEH | .e, .l => .ldEL | .e, .indHl => .ldEIndHl | .e, .a => .ldEA
  | .h, .b => .ldHB | .h, .c => .ldHC | .h, .d => .ldHD | .h, .e => .ldHE
  | .h, .h => .ldHH | .h, .l => .ldHL | .h, .indHl => .ldHIndHl | .h, .a => .ldHA
  | .l, .b => .ldLB | .l, .c => .ldLC | .l, .d => .ldLD | .l, .e => .ldLE
  | .l, .h => .ldLH | .l, .l => .ldLL | .l, .indHl => .ldLIndHl | .l, .a => .ldLA
  | .indHl, .b => .ldIndHlB | .indHl, .c => .ldIndHlC | .indHl, .d => .ldIndHlD | .indHl, .e => .ldIndHlE
  | .indHl, .h => .ldIndHlH | .indHl, .l => .ldIndHlL | .indHl, .indHl => .halt | .indHl, .a => .ldIndHlA
  | .a, .b => .ldAB | .a, .c => .ldAC | .a, .d => .ldAD | .a, .e => .ldAE
  | .a, .h => .ldAH | .a, .l => .ldAL | .a, .indHl => .ldAIndHl | .a, .a => .ldAA

/-- `LD dst,d8` (40_load8 R151, R154). -/
def loadImmOf : R8 → Byte → Instr
  | .b => .ldBD8
  | .c => .ldCD8
  | .d => .ldDD8
  | .e => .ldED8
  | .h => .ldHD8
  | .l => .ldLD8
  | .indHl => .ldIndHlD8
  | .a => .ldAD8

/-- An ALU instruction on a register or `(HL)` (42_alu8 R200). -/
def aluOf : AluOp → R8 → Instr
  | .add, .b => .addAB | .add, .c => .addAC | .add, .d => .addAD | .add, .e => .addAE
  | .add, .h => .addAH | .add, .l => .addAL | .add, .indHl => .addAIndHl | .add, .a => .addAA
  | .adc, .b => .adcAB | .adc, .c => .adcAC | .adc, .d => .adcAD | .adc, .e => .adcAE
  | .adc, .h => .adcAH | .adc, .l => .adcAL | .adc, .indHl => .adcAIndHl | .adc, .a => .adcAA
  | .sub, .b => .subB | .sub, .c => .subC | .sub, .d => .subD | .sub, .e => .subE
  | .sub, .h => .subH | .sub, .l => .subL | .sub, .indHl => .subIndHl | .sub, .a => .subA
  | .sbc, .b => .sbcAB | .sbc, .c => .sbcAC | .sbc, .d => .sbcAD | .sbc, .e => .sbcAE
  | .sbc, .h => .sbcAH | .sbc, .l => .sbcAL | .sbc, .indHl => .sbcAIndHl | .sbc, .a => .sbcAA
  | .and, .b => .andB | .and, .c => .andC | .and, .d => .andD | .and, .e => .andE
  | .and, .h => .andH | .and, .l => .andL | .and, .indHl => .andIndHl | .and, .a => .andA
  | .xor, .b => .xorB | .xor, .c => .xorC | .xor, .d => .xorD | .xor, .e => .xorE
  | .xor, .h => .xorH | .xor, .l => .xorL | .xor, .indHl => .xorIndHl | .xor, .a => .xorA
  | .or, .b => .orB | .or, .c => .orC | .or, .d => .orD | .or, .e => .orE
  | .or, .h => .orH | .or, .l => .orL | .or, .indHl => .orIndHl | .or, .a => .orA
  | .cp, .b => .cpB | .cp, .c => .cpC | .cp, .d => .cpD | .cp, .e => .cpE
  | .cp, .h => .cpH | .cp, .l => .cpL | .cp, .indHl => .cpIndHl | .cp, .a => .cpA

/-- An ALU instruction on an immediate byte (42_alu8 R200). -/
def aluImmOf : AluOp → Byte → Instr
  | .add => .addAD8
  | .adc => .adcAD8
  | .sub => .subD8
  | .sbc => .sbcAD8
  | .and => .andD8
  | .xor => .xorD8
  | .or => .orD8
  | .cp => .cpD8

/-- `INC r8` (42_alu8 R209, R210). -/
def incOf : R8 → Instr
  | .b => .incB | .c => .incC | .d => .incD | .e => .incE
  | .h => .incH | .l => .incL | .indHl => .incIndHl | .a => .incA

/-- `DEC r8` (42_alu8 R211, R212). -/
def decOf : R8 → Instr
  | .b => .decB | .c => .decC | .d => .decD | .e => .decE
  | .h => .decH | .l => .decL | .indHl => .decIndHl | .a => .decA

/-- A rotate or shift of the secondary table (44_rotate_shift_bit R254 to R262). -/
def rotOf : RotOp → R8 → Instr
  | .rlc, .b => .rlcB | .rlc, .c => .rlcC | .rlc, .d => .rlcD | .rlc, .e => .rlcE
  | .rlc, .h => .rlcH | .rlc, .l => .rlcL | .rlc, .indHl => .rlcIndHl | .rlc, .a => .rlcA
  | .rrc, .b => .rrcB | .rrc, .c => .rrcC | .rrc, .d => .rrcD | .rrc, .e => .rrcE
  | .rrc, .h => .rrcH | .rrc, .l => .rrcL | .rrc, .indHl => .rrcIndHl | .rrc, .a => .rrcA
  | .rl, .b => .rlB | .rl, .c => .rlC | .rl, .d => .rlD | .rl, .e => .rlE
  | .rl, .h => .rlH | .rl, .l => .rlL | .rl, .indHl => .rlIndHl | .rl, .a => .rlA
  | .rr, .b => .rrB | .rr, .c => .rrC | .rr, .d => .rrD | .rr, .e => .rrE
  | .rr, .h => .rrH | .rr, .l => .rrL | .rr, .indHl => .rrIndHl | .rr, .a => .rrA
  | .sla, .b => .slaB | .sla, .c => .slaC | .sla, .d => .slaD | .sla, .e => .slaE
  | .sla, .h => .slaH | .sla, .l => .slaL | .sla, .indHl => .slaIndHl | .sla, .a => .slaA
  | .sra, .b => .sraB | .sra, .c => .sraC | .sra, .d => .sraD | .sra, .e => .sraE
  | .sra, .h => .sraH | .sra, .l => .sraL | .sra, .indHl => .sraIndHl | .sra, .a => .sraA
  | .swap, .b => .swapB | .swap, .c => .swapC | .swap, .d => .swapD | .swap, .e => .swapE
  | .swap, .h => .swapH | .swap, .l => .swapL | .swap, .indHl => .swapIndHl | .swap, .a => .swapA
  | .srl, .b => .srlB | .srl, .c => .srlC | .srl, .d => .srlD | .srl, .e => .srlE
  | .srl, .h => .srlH | .srl, .l => .srlL | .srl, .indHl => .srlIndHl | .srl, .a => .srlA

/-- `BIT b,r8` (44_rotate_shift_bit R263) for an operand: the instructions of bits 0 to 7, in that order. -/
def bitRow : R8 → List Instr
  | .b => [.bit0B, .bit1B, .bit2B, .bit3B, .bit4B, .bit5B, .bit6B, .bit7B]
  | .c => [.bit0C, .bit1C, .bit2C, .bit3C, .bit4C, .bit5C, .bit6C, .bit7C]
  | .d => [.bit0D, .bit1D, .bit2D, .bit3D, .bit4D, .bit5D, .bit6D, .bit7D]
  | .e => [.bit0E, .bit1E, .bit2E, .bit3E, .bit4E, .bit5E, .bit6E, .bit7E]
  | .h => [.bit0H, .bit1H, .bit2H, .bit3H, .bit4H, .bit5H, .bit6H, .bit7H]
  | .l => [.bit0L, .bit1L, .bit2L, .bit3L, .bit4L, .bit5L, .bit6L, .bit7L]
  | .indHl => [.bit0IndHl, .bit1IndHl, .bit2IndHl, .bit3IndHl, .bit4IndHl, .bit5IndHl, .bit6IndHl, .bit7IndHl]
  | .a => [.bit0A, .bit1A, .bit2A, .bit3A, .bit4A, .bit5A, .bit6A, .bit7A]

/-- `RES b,r8` (44_rotate_shift_bit R264) for an operand: the instructions of bits 0 to 7, in that order. -/
def resRow : R8 → List Instr
  | .b => [.res0B, .res1B, .res2B, .res3B, .res4B, .res5B, .res6B, .res7B]
  | .c => [.res0C, .res1C, .res2C, .res3C, .res4C, .res5C, .res6C, .res7C]
  | .d => [.res0D, .res1D, .res2D, .res3D, .res4D, .res5D, .res6D, .res7D]
  | .e => [.res0E, .res1E, .res2E, .res3E, .res4E, .res5E, .res6E, .res7E]
  | .h => [.res0H, .res1H, .res2H, .res3H, .res4H, .res5H, .res6H, .res7H]
  | .l => [.res0L, .res1L, .res2L, .res3L, .res4L, .res5L, .res6L, .res7L]
  | .indHl => [.res0IndHl, .res1IndHl, .res2IndHl, .res3IndHl, .res4IndHl, .res5IndHl, .res6IndHl, .res7IndHl]
  | .a => [.res0A, .res1A, .res2A, .res3A, .res4A, .res5A, .res6A, .res7A]

/-- `SET b,r8` (44_rotate_shift_bit R265) for an operand: the instructions of bits 0 to 7, in that order. -/
def setRow : R8 → List Instr
  | .b => [.set0B, .set1B, .set2B, .set3B, .set4B, .set5B, .set6B, .set7B]
  | .c => [.set0C, .set1C, .set2C, .set3C, .set4C, .set5C, .set6C, .set7C]
  | .d => [.set0D, .set1D, .set2D, .set3D, .set4D, .set5D, .set6D, .set7D]
  | .e => [.set0E, .set1E, .set2E, .set3E, .set4E, .set5E, .set6E, .set7E]
  | .h => [.set0H, .set1H, .set2H, .set3H, .set4H, .set5H, .set6H, .set7H]
  | .l => [.set0L, .set1L, .set2L, .set3L, .set4L, .set5L, .set6L, .set7L]
  | .indHl => [.set0IndHl, .set1IndHl, .set2IndHl, .set3IndHl, .set4IndHl, .set5IndHl, .set6IndHl, .set7IndHl]
  | .a => [.set0A, .set1A, .set2A, .set3A, .set4A, .set5A, .set6A, .set7A]

/-- `LD rr,d16` (41_load16_stack R180). -/
def loadPairOf : R16 → Word → Instr
  | .bc => .ldBcD16 | .de => .ldDeD16 | .hl => .ldHlD16 | .sp => .ldSpD16

/-- `INC rr` (43_alu16 R241). -/
def incPairOf : R16 → Instr
  | .bc => .incBc | .de => .incDe | .hl => .incHl | .sp => .incSp

/-- `DEC rr` (43_alu16 R242). -/
def decPairOf : R16 → Instr
  | .bc => .decBc | .de => .decDe | .hl => .decHl | .sp => .decSp

/-- `ADD HL,rr` (43_alu16 R240). -/
def addHlOf : R16 → Instr
  | .bc => .addHlBc | .de => .addHlDe | .hl => .addHlHl | .sp => .addHlSp

/-- `PUSH rr` (41_load16_stack R184). -/
def pushOf : R16Stk → Instr
  | .bc => .pushBc | .de => .pushDe | .hl => .pushHl | .af => .pushAf

/-- `POP rr` (41_load16_stack R185, R186). -/
def popOf : R16Stk → Instr
  | .bc => .popBc | .de => .popDe | .hl => .popHl | .af => .popAf

/-- `JP cc,a16` (45_control R281). -/
def jumpOf : Cond → Word → Instr
  | .nz => .jpNzA16 | .z => .jpZA16 | .nc => .jpNcA16 | .c => .jpCA16

/-- `JR cc,e8` (45_control R284). -/
def relativeOf : Cond → Byte → Instr
  | .nz => .jrNzE8 | .z => .jrZE8 | .nc => .jrNcE8 | .c => .jrCE8

/-- `CALL cc,a16` (45_control R286). -/
def callOf : Cond → Word → Instr
  | .nz => .callNzA16 | .z => .callZA16 | .nc => .callNcA16 | .c => .callCA16

/-- `RET cc` (45_control R288). -/
def returnOf : Cond → Instr
  | .nz => .retNz | .z => .retZ | .nc => .retNc | .c => .retC

/-- The eight `RST n`, by `n / 8` (45_control R290). -/
def restarts : List Instr := [.rst00, .rst08, .rst10, .rst18, .rst20, .rst28, .rst30, .rst38]

/-- The eleven illegal opcodes with their instructions (46_system R306). -/
def illegals : List (Byte × Instr) :=
  [(0xD3, .illegalD3), (0xDB, .illegalDB), (0xDD, .illegalDD), (0xE3, .illegalE3), (0xE4, .illegalE4), (0xEB, .illegalEB),
   (0xEC, .illegalEC), (0xED, .illegalED), (0xF4, .illegalF4), (0xFC, .illegalFC), (0xFD, .illegalFD)]

/-- The registers an instruction other than the prefix byte writes, as its rule names them: destinations, and HL where the
addressing mode updates it (each rule's *Operation*). -/
def ownDestinations : Instr → List R8
  | .ldBcD16 _ | .incBc | .decBc | .popBc => [.b, .c]
  | .incB | .decB | .ldBD8 _ | .ldBB | .ldBC | .ldBD | .ldBE | .ldBH | .ldBL | .ldBIndHl | .ldBA | .rlcB | .rrcB
  | .rlB | .rrB | .slaB | .sraB | .swapB | .srlB | .res0B | .res1B | .res2B | .res3B | .res4B | .res5B | .res6B
  | .res7B | .set0B | .set1B | .set2B | .set3B | .set4B | .set5B | .set6B | .set7B => [.b]
  | .rlca | .ldAIndBc | .rrca | .rla | .ldAIndDe | .rra | .daa | .cpl | .incA | .decA | .ldAD8 _ | .ldAB | .ldAC
  | .ldAD | .ldAE | .ldAH | .ldAL | .ldAIndHl | .ldAA | .addAB | .addAC | .addAD | .addAE | .addAH | .addAL
  | .addAIndHl | .addAA | .adcAB | .adcAC | .adcAD | .adcAE | .adcAH | .adcAL | .adcAIndHl | .adcAA | .subB | .subC
  | .subD | .subE | .subH | .subL | .subIndHl | .subA | .sbcAB | .sbcAC | .sbcAD | .sbcAE | .sbcAH | .sbcAL
  | .sbcAIndHl | .sbcAA | .andB | .andC | .andD | .andE | .andH | .andL | .andIndHl | .andA | .xorB | .xorC | .xorD
  | .xorE | .xorH | .xorL | .xorIndHl | .xorA | .orB | .orC | .orD | .orE | .orH | .orL | .orIndHl | .orA | .addAD8 _
  | .adcAD8 _ | .subD8 _ | .sbcAD8 _ | .andD8 _ | .xorD8 _ | .ldhAIndA8 _ | .popAf | .ldhAIndC | .orD8 _
  | .ldAIndA16 _ | .rlcA | .rrcA | .rlA | .rrA | .slaA | .sraA | .swapA | .srlA | .res0A | .res1A | .res2A | .res3A
  | .res4A | .res5A | .res6A | .res7A | .set0A | .set1A | .set2A | .set3A | .set4A | .set5A | .set6A | .set7A => [.a]
  | .addHlBc | .addHlDe | .ldHlD16 _ | .ldIndHlIncA | .incHl | .addHlHl | .decHl | .ldIndHlDecA | .addHlSp | .popHl
  | .ldHlSpE8 _ => [.h, .l]
  | .incC | .decC | .ldCD8 _ | .ldCB | .ldCC | .ldCD | .ldCE | .ldCH | .ldCL | .ldCIndHl | .ldCA | .rlcC | .rrcC
  | .rlC | .rrC | .slaC | .sraC | .swapC | .srlC | .res0C | .res1C | .res2C | .res3C | .res4C | .res5C | .res6C
  | .res7C | .set0C | .set1C | .set2C | .set3C | .set4C | .set5C | .set6C | .set7C => [.c]
  | .ldDeD16 _ | .incDe | .decDe | .popDe => [.d, .e]
  | .incD | .decD | .ldDD8 _ | .ldDB | .ldDC | .ldDD | .ldDE | .ldDH | .ldDL | .ldDIndHl | .ldDA | .rlcD | .rrcD
  | .rlD | .rrD | .slaD | .sraD | .swapD | .srlD | .res0D | .res1D | .res2D | .res3D | .res4D | .res5D | .res6D
  | .res7D | .set0D | .set1D | .set2D | .set3D | .set4D | .set5D | .set6D | .set7D => [.d]
  | .incE | .decE | .ldED8 _ | .ldEB | .ldEC | .ldED | .ldEE | .ldEH | .ldEL | .ldEIndHl | .ldEA | .rlcE | .rrcE
  | .rlE | .rrE | .slaE | .sraE | .swapE | .srlE | .res0E | .res1E | .res2E | .res3E | .res4E | .res5E | .res6E
  | .res7E | .set0E | .set1E | .set2E | .set3E | .set4E | .set5E | .set6E | .set7E => [.e]
  | .incH | .decH | .ldHD8 _ | .ldHB | .ldHC | .ldHD | .ldHE | .ldHH | .ldHL | .ldHIndHl | .ldHA | .rlcH | .rrcH
  | .rlH | .rrH | .slaH | .sraH | .swapH | .srlH | .res0H | .res1H | .res2H | .res3H | .res4H | .res5H | .res6H
  | .res7H | .set0H | .set1H | .set2H | .set3H | .set4H | .set5H | .set6H | .set7H => [.h]
  | .ldAIndHlInc | .ldAIndHlDec => [.a, .h, .l]
  | .incL | .decL | .ldLD8 _ | .ldLB | .ldLC | .ldLD | .ldLE | .ldLH | .ldLL | .ldLIndHl | .ldLA | .rlcL | .rrcL
  | .rlL | .rrL | .slaL | .sraL | .swapL | .srlL | .res0L | .res1L | .res2L | .res3L | .res4L | .res5L | .res6L
  | .res7L | .set0L | .set1L | .set2L | .set3L | .set4L | .set5L | .set6L | .set7L => [.l]
  | _ => []

/-- The registers an instruction writes; the prefix byte writes those of the secondary instruction it fetches (46_system
R305). -/
def destinations (i : Instr) (s : State) : List R8 :=
  if i = .prefixCb then ownDestinations (decodeBytes 0xCB (busRead s s.cpu.pc) 0) else ownDestinations i

/-- The instructions other than the prefix byte that store a byte at HL. -/
def storesAtHl : Instr → Bool
  | .ldIndHlIncA | .ldIndHlDecA | .incIndHl | .decIndHl | .ldIndHlD8 _ | .ldIndHlB | .ldIndHlC | .ldIndHlD
  | .ldIndHlE | .ldIndHlH | .ldIndHlL | .ldIndHlA | .rlcIndHl | .rrcIndHl | .rlIndHl | .rrIndHl | .slaIndHl
  | .sraIndHl | .swapIndHl | .srlIndHl | .res0IndHl | .res1IndHl | .res2IndHl | .res3IndHl | .res4IndHl | .res5IndHl
  | .res6IndHl | .res7IndHl | .set0IndHl | .set1IndHl | .set2IndHl | .set3IndHl | .set4IndHl | .set5IndHl
  | .set6IndHl | .set7IndHl => true
  | _ => false

/-- The addresses an instruction other than the prefix byte stores to, one for each byte stored, in a state before it. -/
def ownTargets (i : Instr) (s : State) : List Word :=
  let stack := [s.cpu.sp - 1, s.cpu.sp - 2]
  match i with
  | .ldIndBcA => [s.bc]
  | .ldIndDeA => [s.de]
  | .ldIndA16A a => [a]
  | .ldhIndA8A n => [0xFF00 + n.setWidth 16]
  | .ldhIndCA => [0xFF00 + s.cpu.c.setWidth 16]
  | .ldIndA16Sp a => [a, a + 1]
  | .pushBc | .pushDe | .pushHl | .pushAf => stack
  | .callA16 _ => stack
  | .rst00 | .rst08 | .rst10 | .rst18 | .rst20 | .rst28 | .rst30 | .rst38 => stack
  | .callNzA16 _ => if s.holds .nz then stack else []
  | .callZA16 _ => if s.holds .z then stack else []
  | .callNcA16 _ => if s.holds .nc then stack else []
  | .callCA16 _ => if s.holds .c then stack else []
  | i => if storesAtHl i then [s.hl] else []

/-- The addresses an instruction stores to; the prefix byte stores where the secondary instruction it fetches does. -/
def storeTargets (i : Instr) (s : State) : List Word :=
  if i = .prefixCb then ownTargets (decodeBytes 0xCB (busRead s s.cpu.pc) 0) s else ownTargets i s

/-- The instructions that may write SP (10_state R22, R28). -/
def writesSp : Instr → Bool
  | .ldSpD16 _ | .incSp | .decSp | .retNz | .popBc | .callNzA16 _ | .pushBc | .rst00 | .retZ | .ret | .callZA16 _
  | .callA16 _ | .rst08 | .retNc | .popDe | .callNcA16 _ | .pushDe | .rst10 | .retC | .reti | .callCA16 _ | .rst18
  | .popHl | .pushHl | .rst20 | .addSpE8 _ | .rst28 | .popAf | .pushAf | .rst30 | .ldSpHl | .rst38 => true
  | _ => false

/-- The instructions that may write PC beyond passing their own bytes: the control transfers, and the prefix byte, which
fetches its second byte (10_state R27). -/
def writesPc : Instr → Bool
  | .jrE8 _ | .jrNzE8 _ | .jrZE8 _ | .jrNcE8 _ | .jrCE8 _ | .retNz | .jpNzA16 _ | .jpA16 _ | .callNzA16 _ | .rst00
  | .retZ | .ret | .jpZA16 _ | .callZA16 _ | .callA16 _ | .rst08 | .retNc | .jpNcA16 _ | .callNcA16 _ | .rst10
  | .retC | .reti | .jpCA16 _ | .callCA16 _ | .rst18 | .rst20 | .jpHl | .rst28 | .rst30 | .rst38 | .prefixCb => true
  | _ => false

/-- One flag in the *flags* column of the opcode table (30_encoding R130). -/
inductive FlagRule where
  | keep | clear | set | computed
  deriving DecidableEq, Repr

/-- A cell of the *flags* column: Z, N, H, C (30_encoding R130). -/
abbrev FlagCell := FlagRule × FlagRule × FlagRule × FlagRule

/-- `----` -/
def fKKKK : FlagCell := (.keep, .keep, .keep, .keep)
/-- `Z0H-` -/
def fV0VK : FlagCell := (.computed, .clear, .computed, .keep)
/-- `Z1H-` -/
def fV1VK : FlagCell := (.computed, .set, .computed, .keep)
/-- `000C` -/
def f000V : FlagCell := (.clear, .clear, .clear, .computed)
/-- `-0HC` -/
def fK0VV : FlagCell := (.keep, .clear, .computed, .computed)
/-- `Z-0C` -/
def fVK0V : FlagCell := (.computed, .keep, .clear, .computed)
/-- `-11-` -/
def fK11K : FlagCell := (.keep, .set, .set, .keep)
/-- `-001` -/
def fK001 : FlagCell := (.keep, .clear, .clear, .set)
/-- `-00C` -/
def fK00V : FlagCell := (.keep, .clear, .clear, .computed)
/-- `Z0HC` -/
def fV0VV : FlagCell := (.computed, .clear, .computed, .computed)
/-- `Z1HC` -/
def fV1VV : FlagCell := (.computed, .set, .computed, .computed)
/-- `Z010` -/
def fV010 : FlagCell := (.computed, .clear, .set, .clear)
/-- `Z000` -/
def fV000 : FlagCell := (.computed, .clear, .clear, .clear)
/-- `00HC` -/
def f00VV : FlagCell := (.clear, .clear, .computed, .computed)
/-- `ZNHC` -/
def fVVVV : FlagCell := (.computed, .computed, .computed, .computed)
/-- `Z00C` -/
def fV00V : FlagCell := (.computed, .clear, .clear, .computed)
/-- `Z01-` -/
def fV01K : FlagCell := (.computed, .clear, .set, .keep)

/-- The *flags* column of the primary table, a list for each high digit of the opcode (30_encoding R130). -/
def flagGrid : List (List FlagCell) :=
  [[fKKKK, fKKKK, fKKKK, fKKKK, fV0VK, fV1VK, fKKKK, f000V, fKKKK, fK0VV, fKKKK, fKKKK, fV0VK, fV1VK, fKKKK, f000V],
   [fKKKK, fKKKK, fKKKK, fKKKK, fV0VK, fV1VK, fKKKK, f000V, fKKKK, fK0VV, fKKKK, fKKKK, fV0VK, fV1VK, fKKKK, f000V],
   [fKKKK, fKKKK, fKKKK, fKKKK, fV0VK, fV1VK, fKKKK, fVK0V, fKKKK, fK0VV, fKKKK, fKKKK, fV0VK, fV1VK, fKKKK, fK11K],
   [fKKKK, fKKKK, fKKKK, fKKKK, fV0VK, fV1VK, fKKKK, fK001, fKKKK, fK0VV, fKKKK, fKKKK, fV0VK, fV1VK, fKKKK, fK00V],
   [fKKKK, fKKKK, fKKKK, fKKKK, fKKKK, fKKKK, fKKKK, fKKKK, fKKKK, fKKKK, fKKKK, fKKKK, fKKKK, fKKKK, fKKKK, fKKKK],
   [fKKKK, fKKKK, fKKKK, fKKKK, fKKKK, fKKKK, fKKKK, fKKKK, fKKKK, fKKKK, fKKKK, fKKKK, fKKKK, fKKKK, fKKKK, fKKKK],
   [fKKKK, fKKKK, fKKKK, fKKKK, fKKKK, fKKKK, fKKKK, fKKKK, fKKKK, fKKKK, fKKKK, fKKKK, fKKKK, fKKKK, fKKKK, fKKKK],
   [fKKKK, fKKKK, fKKKK, fKKKK, fKKKK, fKKKK, fKKKK, fKKKK, fKKKK, fKKKK, fKKKK, fKKKK, fKKKK, fKKKK, fKKKK, fKKKK],
   [fV0VV, fV0VV, fV0VV, fV0VV, fV0VV, fV0VV, fV0VV, fV0VV, fV0VV, fV0VV, fV0VV, fV0VV, fV0VV, fV0VV, fV0VV, fV0VV],
   [fV1VV, fV1VV, fV1VV, fV1VV, fV1VV, fV1VV, fV1VV, fV1VV, fV1VV, fV1VV, fV1VV, fV1VV, fV1VV, fV1VV, fV1VV, fV1VV],
   [fV010, fV010, fV010, fV010, fV010, fV010, fV010, fV010, fV000, fV000, fV000, fV000, fV000, fV000, fV000, fV000],
   [fV000, fV000, fV000, fV000, fV000, fV000, fV000, fV000, fV1VV, fV1VV, fV1VV, fV1VV, fV1VV, fV1VV, fV1VV, fV1VV],
   [fKKKK, fKKKK, fKKKK, fKKKK, fKKKK, fKKKK, fV0VV, fKKKK, fKKKK, fKKKK, fKKKK, fKKKK, fKKKK, fKKKK, fV0VV, fKKKK],
   [fKKKK, fKKKK, fKKKK, fKKKK, fKKKK, fKKKK, fV1VV, fKKKK, fKKKK, fKKKK, fKKKK, fKKKK, fKKKK, fKKKK, fV1VV, fKKKK],
   [fKKKK, fKKKK, fKKKK, fKKKK, fKKKK, fKKKK, fV010, fKKKK, f00VV, fKKKK, fKKKK, fKKKK, fKKKK, fKKKK, fV000, fKKKK],
   [fKKKK, fVVVV, fKKKK, fKKKK, fKKKK, fKKKK, fV000, fKKKK, f00VV, fKKKK, fKKKK, fKKKK, fKKKK, fKKKK, fV1VV, fKKKK]]

/-- The *flags* cell of a secondary opcode, by its fields x and y (30_encoding R135). -/
def secondaryFlags (op2 : Byte) : FlagCell :=
  match op2.toNat / 64 with
  | 0 => if op2.toNat / 8 = 6 then fV000 else fV00V
  | 1 => fV01K
  | _ => fKKKK

/-- The *flags* cell of an instruction in a state: by its opcode, or by its second opcode byte after 0xCB, which the prefix
byte alone reads at PC (46_system R305). -/
def flagsOf (i : Instr) (s : State) : FlagCell :=
  let op := (encode i).headD 0
  if op = 0xCB then secondaryFlags ((encode i).getD 1 (busRead s s.cpu.pc))
  else (flagGrid.getD (op.toNat / 16) []).getD (op.toNat % 16) fKKKK

/-- A flag obeys its rule from before to after. -/
def FlagRule.obeyed : FlagRule → Bool → Bool → Prop
  | .keep, before, after => after = before
  | .clear, _, after => after = false
  | .set, _, after => after = true
  | .computed, _, _ => True

/-- The *cycles* column of the primary table, the condition of a conditional transfer holding (30_encoding R130). -/
def cycleGrid : List (List Nat) :=
  [[4, 12, 8, 8, 4, 4, 8, 4, 20, 8, 8, 8, 4, 4, 8, 4],
   [4, 12, 8, 8, 4, 4, 8, 4, 12, 8, 8, 8, 4, 4, 8, 4],
   [12, 12, 8, 8, 4, 4, 8, 4, 12, 8, 8, 8, 4, 4, 8, 4],
   [12, 12, 8, 8, 12, 12, 12, 4, 12, 8, 8, 8, 4, 4, 8, 4],
   [4, 4, 4, 4, 4, 4, 8, 4, 4, 4, 4, 4, 4, 4, 8, 4],
   [4, 4, 4, 4, 4, 4, 8, 4, 4, 4, 4, 4, 4, 4, 8, 4],
   [4, 4, 4, 4, 4, 4, 8, 4, 4, 4, 4, 4, 4, 4, 8, 4],
   [8, 8, 8, 8, 8, 8, 4, 8, 4, 4, 4, 4, 4, 4, 8, 4],
   [4, 4, 4, 4, 4, 4, 8, 4, 4, 4, 4, 4, 4, 4, 8, 4],
   [4, 4, 4, 4, 4, 4, 8, 4, 4, 4, 4, 4, 4, 4, 8, 4],
   [4, 4, 4, 4, 4, 4, 8, 4, 4, 4, 4, 4, 4, 4, 8, 4],
   [4, 4, 4, 4, 4, 4, 8, 4, 4, 4, 4, 4, 4, 4, 8, 4],
   [20, 12, 16, 16, 24, 16, 8, 16, 20, 16, 16, 0, 24, 24, 8, 16],
   [20, 12, 16, 4, 24, 16, 8, 16, 20, 16, 16, 4, 24, 4, 8, 16],
   [12, 12, 8, 4, 4, 16, 8, 16, 16, 4, 16, 4, 4, 4, 8, 16],
   [12, 12, 8, 4, 4, 16, 8, 16, 12, 8, 16, 4, 4, 4, 8, 16]]

/-- The *cycles* column of the primary table, the condition of a conditional transfer not holding (30_encoding R130). -/
def cycleGridNotTaken : List (List Nat) :=
  [[4, 12, 8, 8, 4, 4, 8, 4, 20, 8, 8, 8, 4, 4, 8, 4],
   [4, 12, 8, 8, 4, 4, 8, 4, 12, 8, 8, 8, 4, 4, 8, 4],
   [8, 12, 8, 8, 4, 4, 8, 4, 8, 8, 8, 8, 4, 4, 8, 4],
   [8, 12, 8, 8, 12, 12, 12, 4, 8, 8, 8, 8, 4, 4, 8, 4],
   [4, 4, 4, 4, 4, 4, 8, 4, 4, 4, 4, 4, 4, 4, 8, 4],
   [4, 4, 4, 4, 4, 4, 8, 4, 4, 4, 4, 4, 4, 4, 8, 4],
   [4, 4, 4, 4, 4, 4, 8, 4, 4, 4, 4, 4, 4, 4, 8, 4],
   [8, 8, 8, 8, 8, 8, 4, 8, 4, 4, 4, 4, 4, 4, 8, 4],
   [4, 4, 4, 4, 4, 4, 8, 4, 4, 4, 4, 4, 4, 4, 8, 4],
   [4, 4, 4, 4, 4, 4, 8, 4, 4, 4, 4, 4, 4, 4, 8, 4],
   [4, 4, 4, 4, 4, 4, 8, 4, 4, 4, 4, 4, 4, 4, 8, 4],
   [4, 4, 4, 4, 4, 4, 8, 4, 4, 4, 4, 4, 4, 4, 8, 4],
   [8, 12, 12, 16, 12, 16, 8, 16, 8, 16, 12, 0, 12, 24, 8, 16],
   [8, 12, 12, 4, 12, 16, 8, 16, 8, 16, 12, 4, 12, 4, 8, 16],
   [12, 12, 8, 4, 4, 16, 8, 16, 16, 4, 16, 4, 4, 4, 8, 16],
   [12, 12, 8, 4, 4, 16, 8, 16, 12, 8, 16, 4, 4, 4, 8, 16]]

/-- The cycles of a secondary opcode (30_encoding R135). -/
def secondaryCycles (op2 : Byte) : Nat :=
  if op2.toNat % 8 = 6 then (if op2.toNat / 64 = 1 then 12 else 16) else 8

/-- The condition in bits 4:3 of an opcode (30_encoding R127). -/
def conditionOf (op : Byte) : Cond :=
  match op.toNat / 8 % 4 with
  | 0 => .nz | 1 => .z | 2 => .nc | _ => .c

/-- The cycles of an instruction in a state, from the columns of the two tables. -/
def cyclesOf (i : Instr) (s : State) : Nat :=
  let op := (encode i).headD 0
  if op = 0xCB then secondaryCycles ((encode i).getD 1 (busRead s s.cpu.pc))
  else if s.holds (conditionOf op) then (cycleGrid.getD (op.toNat / 16) []).getD (op.toNat % 16) 0
  else (cycleGridNotTaken.getD (op.toNat / 16) []).getD (op.toNat % 16) 0

/-! Operands and shapes of next states. -/

/-- F of `t` holds these four flags, at the bits of 10_state R23, and its low nibble is 0 (10_state R24). -/
def FlagsAre (t : State) (z n h c : Prop) : Prop :=
  (t.cpu.f.getLsbD 7 = true ↔ z) ∧ (t.cpu.f.getLsbD 6 = true ↔ n) ∧ (t.cpu.f.getLsbD 5 = true ↔ h) ∧
    (t.cpu.f.getLsbD 4 = true ↔ c) ∧ t.cpu.f &&& 0x0F = 0

/-- The three forms of the source operand of the ALU group (42_alu8 R200). -/
inductive AluForm where
  | reg (r : R8)
  | imm (v : Byte)

/-- The instruction of an ALU operation on a source (42_alu8 R200). -/
def AluForm.instr (op : AluOp) : AluForm → Instr
  | .reg r => aluOf op r
  | .imm v => aluImmOf op v

/-- Its bytes (42_alu8 R200). -/
def AluForm.bytes (op : AluOp) : AluForm → List Byte
  | .reg r => [(0x80 : Byte) ||| aluCode op <<< 3 ||| code r]
  | .imm v => [(0xC6 : Byte) ||| aluCode op <<< 3, v]

/-- The source byte (42_alu8 R200). -/
def AluForm.source (s : State) : AluForm → Byte
  | .reg r => readR8 s r
  | .imm v => v

/-- The cycles of the form (42_alu8 R200). -/
def AluForm.cost : AluForm → Nat
  | .reg r => if r = .indHl then 8 else 4
  | .imm _ => 8

/-- The bit `i` of a rotated or shifted byte `v`, `c` being the carry before (44_rotate_shift_bit R255 to R262). -/
def rotatedBit (op : RotOp) (v : Byte) (c : Bool) (i : Nat) : Bool :=
  match op with
  | .rlc => v.getLsbD ((i + 7) % 8)
  | .rrc => v.getLsbD ((i + 1) % 8)
  | .rl => if i = 0 then c else v.getLsbD (i - 1)
  | .rr => if i = 7 then c else v.getLsbD (i + 1)
  | .sla => if i = 0 then false else v.getLsbD (i - 1)
  | .sra => if i = 7 then v.getLsbD 7 else v.getLsbD (i + 1)
  | .swap => v.getLsbD ((i + 4) % 8)
  | .srl => if i = 7 then false else v.getLsbD (i + 1)

/-- The carry after a rotate or shift: the bit that left the byte (44_rotate_shift_bit R255 to R262). -/
def carryOut (op : RotOp) (v : Byte) : Bool :=
  match op with
  | .rlc | .rl | .sla => v.getLsbD 7
  | .rrc | .rr | .sra | .srl => v.getLsbD 0
  | .swap => false

/-- `cond(i)` by the bits of F (45_control R279). -/
def taken (s : State) : Cond → Bool
  | .nz => !s.cpu.f.getLsbD 7
  | .z => s.cpu.f.getLsbD 7
  | .nc => !s.cpu.f.getLsbD 4
  | .c => s.cpu.f.getLsbD 4

/-- `s` after `push16(v)`: the high byte stored at SP-1, then the low byte at SP-2, and SP two lower (00_scope R7). -/
def pushed (s : State) (v : Word) : State :=
  { busWrite (busWrite s (s.cpu.sp - 1) (v.extractLsb' 8 8)) (s.cpu.sp - 2) (v.extractLsb' 0 8) with
    cpu := { s.cpu with sp := s.cpu.sp - 2 } }

/-- The word `pop16()` returns: low byte at SP, high byte at SP+1 (00_scope R7). -/
def poppedWord (s : State) : Word := busRead s (s.cpu.sp + 1) ++ busRead s s.cpu.sp

/-- The address a byte of work RAM is stored at, for an address of the mirror; any other address itself (20_memory R64). -/
def unmirrored (a : Word) : Word := if 0xE000 ≤ a.toNat ∧ a.toNat < 0xFE00 then a - 0x2000 else a

/-- Whether a store at `w` may change what a read of `a` gives: at the address itself or its mirror, at TIMA for DIV and TAC
(61_timer R377), at STAT and LY for LCDC, LY and LYC (62_ppu R402, R433), in OAM for the DMA trigger (20_memory R90). -/
def touched (w a : Word) : Bool :=
  unmirrored a = unmirrored w ||
    (w = 0xFF04 || w = 0xFF07) && a = 0xFF05 ||
    w = 0xFF40 && (a = 0xFF41 || a = 0xFF44) ||
    (w = 0xFF44 || w = 0xFF45) && a = 0xFF41 ||
    w = 0xFF46 && decide (0xFE00 ≤ a.toNat ∧ a.toNat < 0xFEA0)

/-- The cycle units per TIMA increment, by `TAC[1:0]` (61_timer R378). -/
def timerPeriod (t : Timer) : Nat :=
  match (t.tac.extractLsb' 0 2).toNat with
  | 0 => 1024 | 1 => 16 | 2 => 64 | _ => 256

/-- The bit of `sys_counter` that clocks TIMA, by `TAC[1:0]` (61_timer R373). -/
def timerBit (tac : BitVec 3) : Nat :=
  match (tac.extractLsb' 0 2).toNat with
  | 0 => 9 | 1 => 3 | 2 => 5 | _ => 7

/-- The place of the PPU in its frame, in cycle units from the first of line 0 (62_ppu R420 to R422). -/
def framePosition (p : Ppu) : Nat :=
  456 * p.ly.toNat +
    match p.mode with
    | .oamSearch => p.dot
    | .pixelTransfer => 80 + p.dot
    | .hBlank => 252 + p.dot
    | .vBlank => p.dot

/-- The PPU is where its mode belongs: modes 2, 3 and 0 on the lines 0 to 143, mode 1 on the lines 144 to 153, `dot` within
the mode's length (10_state R36, 62_ppu R422). -/
def InFrame (p : Ppu) : Prop :=
  match p.mode with
  | .oamSearch => p.dot < 80 ∧ p.ly.toNat < 144
  | .pixelTransfer => p.dot < 172 ∧ p.ly.toNat < 144
  | .hBlank => p.dot < 204 ∧ p.ly.toNat < 144
  | .vBlank => p.dot < 456 ∧ 144 ≤ p.ly.toNat ∧ p.ly.toNat ≤ 153

/-- A number below 100 as two packed decimal digits. -/
def packed (n : Nat) : Byte := BitVec.ofNat 8 (n / 10 * 16 + n % 10)

/-- The low bytes of the I/O addresses that a component owns (20_memory R70). -/
def ioDevices : List Nat :=
  [0x00, 0x04, 0x05, 0x06, 0x07, 0x0F, 0x40, 0x41, 0x42, 0x43, 0x44, 0x45, 0x46, 0x47, 0x48, 0x49, 0x4A, 0x4B]

/-- The reset contents that are not 0xFF of the plain I/O bytes, by the low byte of the address (20_memory R85). -/
def ioTable : List (Nat × Byte) :=
  [(0x01, 0x00), (0x02, 0x7E), (0x10, 0x80), (0x11, 0xBF), (0x12, 0xF3), (0x14, 0xBF), (0x16, 0x3F), (0x17, 0x00),
   (0x19, 0xBF), (0x1A, 0x7F), (0x1C, 0x9F), (0x1E, 0xBF), (0x21, 0x00), (0x22, 0x00), (0x23, 0xBF), (0x24, 0x77),
   (0x25, 0xF3), (0x26, 0xF1), (0x50, 0x01)]

end Sys2Proof.Claims

open Sys2Proof Sys2Proof.Machine Sys2Proof.Claims

/-! ## Encoding -/

/-- Decoding the bytes of any whole instruction, whatever follows them, gives that instruction with every operand it has, and
leaves what follows (30_encoding R120 to R122, R130, R135). -/
def Obligations.DecodeOfEncodeIsTheInstruction : Prop :=
  ∀ (i : Instr) (rest : List Byte), i.wellFormed = true → decode (encode i ++ rest) = .ok (i, rest)

/-- Every three bytes decode to a whole instruction, and its bytes are the first ones of the three: each word has one meaning,
and the decoder drops no bit of it (30_encoding R120, R133, R135). -/
def Obligations.EncodeOfDecodeIsTheBytes : Prop :=
  ∀ b0 b1 b2 : Byte, (decodeBytes b0 b1 b2).wellFormed = true ∧
    encode (decodeBytes b0 b1 b2) = [b0, b1, b2].take (encode (decodeBytes b0 b1 b2)).length ∧
    (encode (decodeBytes b0 b1 b2)).length = instrLength b0 ∧ 1 ≤ instrLength b0 ∧ instrLength b0 ≤ 3

/-- A few words written out from the tables decode to the instructions they stand for (30_encoding R130, R135). -/
def Obligations.WordsDecodeAsTheTablesSay : Prop :=
  decode [0b00000000] = .ok (.nop, []) ∧
  decode [0b01111000] = .ok (.ldAB, []) ∧
  decode [0b01110110] = .ok (.halt, []) ∧
  decode [0b00110110, 0xAB] = .ok (.ldIndHlD8 0xAB, []) ∧
  decode [0b00001000, 0x34, 0x12] = .ok (.ldIndA16Sp 0x1234, []) ∧
  decode [0b10001110] = .ok (.adcAIndHl, []) ∧
  decode [0b11111110, 0x80] = .ok (.cpD8 0x80, []) ∧
  decode [0b00111001] = .ok (.addHlSp, []) ∧
  decode [0b11011010, 0x00, 0x80] = .ok (.jpCA16 0x8000, []) ∧
  decode [0b00100000, 0xFC] = .ok (.jrNzE8 0xFC, []) ∧
  decode [0b11110101] = .ok (.pushAf, []) ∧
  decode [0b11111111] = .ok (.rst38, []) ∧
  decode [0b11111011] = .ok (.ei, []) ∧
  decode [0b11011101] = .ok (.illegalDD, []) ∧
  decode [0b11001011, 0b00110111] = .ok (.swapA, []) ∧
  decode [0b11001011, 0b01100101] = .ok (.bit4L, []) ∧
  decode [0b11001011, 0b11011110] = .ok (.set3IndHl, []) ∧
  decode [0b11001011] = .error .truncated ∧ decode [] = .error .noBytes

/-! ## The step -/

/-- A step that takes no interrupt and is not idle runs the instruction that the bytes at PC decode to: with the pending enable
applied, PC past the instruction, and after it the timer and the PPU advanced by its cycles (60_exceptions R330 points 3 to 6,
R340; 20_memory R63; the joypad change before it is `takeInput`). -/
def Obligations.StepRunsTheDecodedInstruction : Prop :=
  ∀ (s : State) (i : Instr) (rest : List Byte),
    let u := takeInput s
    u.cpu.stopped = false → (u.pending = none → u.cpu.halted = false) → (u.pending = none ∨ u.irq.ime = false) →
    decode [busRead u u.cpu.pc, busRead u (u.cpu.pc + 1), busRead u (u.cpu.pc + 2)] = .ok (i, rest) →
    step s =
      match exec i
        { u with
          irq := { u.irq with ime := u.irq.ime || u.irq.imePending, imePending := false }
          cpu := { u.cpu with halted := false, pc := u.cpu.pc + BitVec.ofNat 16 (encode i).length } } with
      | .next t => .next (ppuStep t.cycles (timerStep t.cycles t))
      | .fault r => .fault r
      | .refused r => .refused r

/-- CORE raises no fault: every step from every state answers a next state (60_exceptions R320). -/
def Obligations.EveryStepAnswersANextState : Prop := ∀ s : State, ∃ t, step s = .next t

/-- A stopped CPU, and a halted one without a pending interrupt, idles: four cycles pass for the timer and the PPU, and nothing
else of the CPU changes (60_exceptions R330 points 1 and 3). -/
def Obligations.IdleStepsPassFourCycles : Prop :=
  ∀ s : State,
    let u := takeInput s
    (u.cpu.stopped = true ∨ (u.cpu.halted = true ∧ u.pending = none)) →
    step s = .next (ppuStep 4 (timerStep 4 { u with cycles := 4 }))

/-- `pending()` is the smallest kind whose enable and request bits are both set, and none when there is no such kind; IE's
bits 7:5 play no part (60_exceptions R325, R321). -/
def Obligations.PendingIsTheFirstEnabledRequest : Prop :=
  ∀ s : State,
    (s.pending = none ↔ s.irq.ie &&& s.irq.ifl.setWidth 8 &&& 0x1F = 0) ∧
    ∀ k : IrqKind, s.pending = some k ↔
      (s.irq.ie &&& s.irq.ifl.setWidth 8).getLsbD k.number = true ∧
        ∀ j : IrqKind, j.number < k.number → (s.irq.ie &&& s.irq.ifl.setWidth 8).getLsbD j.number = false

/-- Taking an interrupt of kind `k`: IME and the pending enable cleared, the halted state left, the request bit `k` alone
cleared, PC pushed, PC at the vector 0x0040 + 8k, at 20 cycles, by which the timer and the PPU then advance; nothing else
changes (60_exceptions R323, R326, R330, R332). -/
def Obligations.DispatchEntersTheVector : Prop :=
  (IrqKind.vBlank.number = 0 ∧ IrqKind.lcdStat.number = 1 ∧ IrqKind.timer.number = 2 ∧ IrqKind.serial.number = 3 ∧
    IrqKind.joypad.number = 4) ∧
  ∀ (s : State) (k : IrqKind),
    let u := takeInput s
    u.cpu.stopped = false → u.pending = some k → u.irq.ime = true →
    let v : State :=
      pushed
        { u with
          irq := { u.irq with ime := false, imePending := false, ifl := u.irq.ifl &&& ~~~((1 : BitVec 5) <<< k.number) }
          cpu := { u.cpu with halted := false } } u.cpu.pc
    step s = .next (ppuStep 20 (timerStep 20
      { v with cpu := { v.cpu with pc := BitVec.ofNat 16 (0x0040 + 8 * k.number) }, cycles := 20 }))

/-- EI leaves IME alone; the step after it makes its interrupt check with IME still clear, so that even with an interrupt
pending it runs one instruction, with IME set by then (46_system R304, 60_exceptions R331). -/
def Obligations.EnableTakesEffectAfterOneInstruction : Prop :=
  (∀ s : State, exec .ei s = .next { s with irq := { s.irq with imePending := true }, cycles := 4 }) ∧
  ∀ (s : State) (i : Instr) (rest : List Byte),
    let u := takeInput s
    u.cpu.stopped = false → u.cpu.halted = false → u.irq.ime = false → u.irq.imePending = true →
    decode [busRead u u.cpu.pc, busRead u (u.cpu.pc + 1), busRead u (u.cpu.pc + 2)] = .ok (i, rest) →
    ∃ t, exec i
        { u with
          irq := { u.irq with ime := true, imePending := false }
          cpu := { u.cpu with pc := u.cpu.pc + BitVec.ofNat 16 (encode i).length } } = .next t ∧
      step s = .next (ppuStep t.cycles (timerStep t.cycles t))

/-- A halted CPU with an interrupt pending and IME clear leaves the halted state in that step and runs the instruction after
the HALT, no request bit cleared before it; a request that is not enabled does not end the halted state (60_exceptions
R336). -/
def Obligations.HaltEndsWithoutService : Prop :=
  ∀ s : State,
    let u := takeInput s
    let enabled := u.irq.ie &&& u.irq.ifl.setWidth 8 &&& 0x1F
    u.cpu.stopped = false → u.cpu.halted = true →
    (∀ (i : Instr) (rest : List Byte), enabled ≠ 0 → u.irq.ime = false → u.irq.imePending = false →
      decode [busRead u u.cpu.pc, busRead u (u.cpu.pc + 1), busRead u (u.cpu.pc + 2)] = .ok (i, rest) →
      ∃ t, exec i { u with cpu := { u.cpu with halted := false, pc := u.cpu.pc + BitVec.ofNat 16 (encode i).length } } =
          .next t ∧
        step s = .next (ppuStep t.cycles (timerStep t.cycles t))) ∧
    (enabled = 0 → ∃ t, step s = .next t ∧ t.cpu = u.cpu)

/-- Every step takes the host's next button value, leaves the cartridge as it is, and costs 4, 8, 12, 16, 20 or 24 cycles
(60_exceptions R340, 20_memory R66, R68; the list of inputs is the model's, log 1). -/
def Obligations.StepTakesOneInputAndKeepsTheCartridge : Prop :=
  ∀ s t : State, step s = .next t →
    t.cart = s.cart ∧ t.inputs = s.inputs.tail ∧ t.joypad.buttons = s.inputs.headD s.joypad.buttons ∧
      t.cycles ∈ [4, 8, 12, 16, 20, 24]

/-! ## 8-bit and 16-bit loads -/

/-- `LD r,d8`, `LD (HL),d8`, `LD r,r'`, `LD r,(HL)` and `LD (HL),r`, each with its bytes (40_load8 R150 to R154). -/
def Obligations.ByteLoadsCopyTheSource : Prop :=
  ∀ (dst src : R8) (v : Byte) (s : State),
    (encode (loadImmOf dst v) = [(0x06 : Byte) ||| code dst <<< 3, v] ∧
      exec (loadImmOf dst v) s = .next { writeR8 s dst v with cycles := if dst = .indHl then 12 else 8 }) ∧
    (dst ≠ .indHl ∨ src ≠ .indHl →
      encode (loadOf dst src) = [(0x40 : Byte) ||| code dst <<< 3 ||| code src] ∧
      exec (loadOf dst src) s =
        .next { writeR8 s dst (readR8 s src) with cycles := if dst = .indHl ∨ src = .indHl then 8 else 4 })

/-- The operand tables: an `r8` other than index 6 is its register, for reads and for writes, and index 6 is the byte on the bus
at HL; the pairs are the registers they name, the first-named one in the high half, and a write of AF masks F; so a read after a
write gives what was written and any other operand as before (30_encoding R124, R125, R126; 10_state R21, R24). -/
def Obligations.OperandsAreTheirRegisters : Prop :=
  ∀ (s : State) (v : Byte) (w : Word),
    let hi : Byte := w.extractLsb' 8 8
    let lo : Byte := w.extractLsb' 0 8
    (readR8 s .b = s.cpu.b ∧ readR8 s .c = s.cpu.c ∧ readR8 s .d = s.cpu.d ∧ readR8 s .e = s.cpu.e ∧ readR8 s .h = s.cpu.h ∧
      readR8 s .l = s.cpu.l ∧ readR8 s .indHl = busRead s (s.cpu.h ++ s.cpu.l) ∧ readR8 s .a = s.cpu.a) ∧
    (writeR8 s .b v = { s with cpu := { s.cpu with b := v } } ∧ writeR8 s .c v = { s with cpu := { s.cpu with c := v } } ∧
      writeR8 s .d v = { s with cpu := { s.cpu with d := v } } ∧ writeR8 s .e v = { s with cpu := { s.cpu with e := v } } ∧
      writeR8 s .h v = { s with cpu := { s.cpu with h := v } } ∧ writeR8 s .l v = { s with cpu := { s.cpu with l := v } } ∧
      writeR8 s .indHl v = busWrite s (s.cpu.h ++ s.cpu.l) v ∧ writeR8 s .a v = { s with cpu := { s.cpu with a := v } }) ∧
    (s.bc = s.cpu.b ++ s.cpu.c ∧ s.de = s.cpu.d ++ s.cpu.e ∧ s.hl = s.cpu.h ++ s.cpu.l ∧ s.af = s.cpu.a ++ s.cpu.f) ∧
    (readR16 s .bc = s.bc ∧ readR16 s .de = s.de ∧ readR16 s .hl = s.hl ∧ readR16 s .sp = s.cpu.sp) ∧
    (writeR16 s .bc w = { s with cpu := { s.cpu with b := hi, c := lo } } ∧
      writeR16 s .de w = { s with cpu := { s.cpu with d := hi, e := lo } } ∧
      writeR16 s .hl w = { s with cpu := { s.cpu with h := hi, l := lo } } ∧
      writeR16 s .sp w = { s with cpu := { s.cpu with sp := w } }) ∧
    (readStk s .bc = s.bc ∧ readStk s .de = s.de ∧ readStk s .hl = s.hl ∧ readStk s .af = s.af) ∧
    (writeStk s .bc w = { s with cpu := { s.cpu with b := hi, c := lo } } ∧
      writeStk s .de w = { s with cpu := { s.cpu with d := hi, e := lo } } ∧
      writeStk s .hl w = { s with cpu := { s.cpu with h := hi, l := lo } } ∧
      writeStk s .af w = { s with cpu := { s.cpu with a := hi, f := lo &&& 0xF0 } }) ∧
    (∀ r q : R8, r ≠ .indHl → q ≠ .indHl → readR8 (writeR8 s r v) q = if q = r then v else readR8 s q) ∧
    (∀ r : R8, r ≠ .indHl → ∃ c : Cpu, writeR8 s r v = { s with cpu := c } ∧ c.f = s.cpu.f ∧ c.sp = s.cpu.sp ∧
      c.pc = s.cpu.pc ∧ c.halted = s.cpu.halted ∧ c.stopped = s.cpu.stopped) ∧
    (∀ r q : R16, readR16 (writeR16 s r w) q = if q = r then w else readR16 s q) ∧
    (∀ r q : R16Stk, readStk (writeStk s r w) q =
      if q = r then (if r = .af then w &&& 0xFFF0 else w) else readStk s q)

/-- The loads of A through an address, with their bytes, and those that then step HL; the byte loaded is what the bus reads
there (40_load8 R155, R156, R159, R161, R163, R165, R167). -/
def Obligations.LoadsOfAReadTheAddress : Prop :=
  ∀ (s : State) (w : Word) (n : Byte),
    (∀ x ∈ [(Instr.ldAIndBc, [(0x0A : Byte)], s.bc, 8), (.ldAIndDe, [0x1A], s.de, 8),
        (.ldAIndA16 w, [0xFA, loByte w, hiByte w], w, 16), (.ldhAIndC, [0xF2], 0xFF00 + s.cpu.c.setWidth 16, 8),
        (.ldhAIndA8 n, [0xF0, n], 0xFF00 + n.setWidth 16, 12)],
      encode x.1 = x.2.1 ∧
      exec x.1 s = .next { s with cpu := { s.cpu with a := busRead s x.2.2.1 }, cycles := x.2.2.2 }) ∧
    (∀ x ∈ [(Instr.ldAIndHlInc, [(0x2A : Byte)], s.hl + 1), (.ldAIndHlDec, [0x3A], s.hl - 1)],
      encode x.1 = x.2.1 ∧
      exec x.1 s = .next
        { s with cpu := { s.cpu with a := busRead s s.hl, h := hiByte x.2.2, l := loByte x.2.2 }, cycles := 8 })

/-- The stores of A to an address, with their bytes, and those that then step HL (40_load8 R157, R158, R160, R162, R164, R166,
R168). -/
def Obligations.StoresOfAWriteTheAddress : Prop :=
  ∀ (s : State) (w : Word) (n : Byte),
    (∀ x ∈ [(Instr.ldIndBcA, [(0x02 : Byte)], s.bc, 8), (.ldIndDeA, [0x12], s.de, 8),
        (.ldIndA16A w, [0xEA, loByte w, hiByte w], w, 16), (.ldhIndCA, [0xE2], 0xFF00 + s.cpu.c.setWidth 16, 8),
        (.ldhIndA8A n, [0xE0, n], 0xFF00 + n.setWidth 16, 12)],
      encode x.1 = x.2.1 ∧ exec x.1 s = .next { busWrite s x.2.2.1 s.cpu.a with cycles := x.2.2.2 }) ∧
    (∀ x ∈ [(Instr.ldIndHlIncA, [(0x22 : Byte)], s.hl + 1), (.ldIndHlDecA, [0x32], s.hl - 1)],
      encode x.1 = x.2.1 ∧
      exec x.1 s = .next
        { busWrite s s.hl s.cpu.a with cpu := { s.cpu with h := hiByte x.2.2, l := loByte x.2.2 }, cycles := 8 })

/-- `LD rr,d16`, `LD SP,HL` and `LD (a16),SP`, which stores the low byte first, the high byte at the next address, wrapping
(41_load16_stack R180 to R182). -/
def Obligations.WordLoadsCopyTheWord : Prop :=
  ∀ (r : R16) (w : Word) (s : State),
    (encode (loadPairOf r w) = [(0x01 : Byte) ||| pairCode r <<< 4, loByte w, hiByte w] ∧
      exec (loadPairOf r w) s = .next { writeR16 s r w with cycles := 12 }) ∧
    (encode .ldSpHl = [0xF9] ∧ exec .ldSpHl s = .next { s with cpu := { s.cpu with sp := s.hl }, cycles := 8 }) ∧
    (encode (.ldIndA16Sp w) = [0x08, loByte w, hiByte w] ∧
      exec (.ldIndA16Sp w) s = .next
        { busWrite (busWrite s w (loByte s.cpu.sp)) (w + 1) (hiByte s.cpu.sp) with cycles := 20 })

/-- `LD HL,SP+e8` and `ADD SP,e8`: the sum of SP and the signed offset, with H and C from the unsigned addition of SP's low byte
and the raw offset byte, Z and N clear (41_load16_stack R183, 43_alu16 R243). -/
def Obligations.OffsetFromSpResults : Prop :=
  ∀ (n : Byte) (s : State),
    let r : Word := BitVec.ofInt 16 ((s.cpu.sp.toNat : Int) + n.toInt)
    let half := s.cpu.sp.toNat % 16 + n.toNat % 16 > 0x0F
    let full := s.cpu.sp.toNat % 256 + n.toNat > 0xFF
    (encode (.ldHlSpE8 n) = [0xF8, n] ∧
      ∃ t, exec (.ldHlSpE8 n) s = .next t ∧ FlagsAre t False False half full ∧
        t = { s with cpu := { s.cpu with h := hiByte r, l := loByte r, f := t.cpu.f }, cycles := 12 }) ∧
    (encode (.addSpE8 n) = [0xE8, n] ∧
      ∃ t, exec (.addSpE8 n) s = .next t ∧ FlagsAre t False False half full ∧
        t = { s with cpu := { s.cpu with sp := r, f := t.cpu.f }, cycles := 16 })

/-- `PUSH rr` stores the high byte at SP-1, then the low byte at SP-2, and leaves SP two lower (41_load16_stack R184). -/
def Obligations.PushStoresHighThenLow : Prop :=
  ∀ (r : R16Stk) (s : State),
    encode (pushOf r) = [(0xC5 : Byte) ||| stkCode r <<< 4] ∧
    exec (pushOf r) s = .next { pushed s (readStk s r) with cycles := 16 }

/-- `POP rr` loads the low byte from SP and the high byte from SP+1 and leaves SP two higher; `POP AF` clears F's low nibble
(41_load16_stack R185, R186). -/
def Obligations.PopLoadsLowThenHigh : Prop :=
  ∀ (r : R16Stk) (s : State),
    encode (popOf r) = [(0xC1 : Byte) ||| stkCode r <<< 4] ∧
    exec (popOf r) s =
      let u : State := { s with cpu := { s.cpu with sp := s.cpu.sp + 2 }, cycles := 12 }
      let lo := busRead s s.cpu.sp
      let hi := busRead s (s.cpu.sp + 1)
      match r with
      | .bc => .next { u with cpu := { u.cpu with b := hi, c := lo } }
      | .de => .next { u with cpu := { u.cpu with d := hi, e := lo } }
      | .hl => .next { u with cpu := { u.cpu with h := hi, l := lo } }
      | .af => .next { u with cpu := { u.cpu with a := hi, f := lo &&& 0xF0 } }

/-! ## 8-bit arithmetic and logic -/

/-- ADD and ADC of every source form: the sum in A, the flags from the exact sum, everything else kept (42_alu8 R200 to
R202). -/
def Obligations.AddAndAdcResults : Prop :=
  ∀ (x : AluForm) (withCarry : Bool) (s : State),
    let op : AluOp := if withCarry then .adc else .add
    let c := if withCarry then (s.cpu.f.getLsbD 4).toNat else 0
    let a := s.cpu.a.toNat
    let v := (x.source s).toNat
    encode (x.instr op) = x.bytes op ∧
    ∃ t, exec (x.instr op) s = .next t ∧
      t = { s with cpu := { s.cpu with a := BitVec.ofNat 8 (a + v + c), f := t.cpu.f }, cycles := x.cost } ∧
      FlagsAre t ((a + v + c) % 256 = 0) False (a % 16 + v % 16 + c > 0x0F) (a + v + c > 0xFF)

/-- SUB, SBC and CP of every source form: the difference in A (CP leaves A), the borrow flags, everything else kept
(42_alu8 R200, R203, R204, R208). -/
def Obligations.SubSbcAndCpResults : Prop :=
  ∀ (x : AluForm) (op : AluOp) (s : State), op = .sub ∨ op = .sbc ∨ op = .cp →
    let c := if op = .sbc then (s.cpu.f.getLsbD 4).toNat else 0
    let a := s.cpu.a.toNat
    let v := (x.source s).toNat
    let r : Int := (a : Int) - v - c
    encode (x.instr op) = x.bytes op ∧
    ∃ t, exec (x.instr op) s = .next t ∧
      t = { s with
        cpu := { s.cpu with a := if op = .cp then s.cpu.a else BitVec.ofInt 8 r, f := t.cpu.f }
        cycles := x.cost } ∧
      FlagsAre t (r % 256 = 0) True (a % 16 < v % 16 + c) (a < v + c)

/-- AND, XOR and OR of every source form, bit by bit; H is set by AND alone (42_alu8 R200, R205 to R207). -/
def Obligations.LogicResults : Prop :=
  ∀ (x : AluForm) (op : AluOp) (s : State), op = .and ∨ op = .xor ∨ op = .or →
    encode (x.instr op) = x.bytes op ∧
    ∃ t, exec (x.instr op) s = .next t ∧
      t = { s with cpu := { s.cpu with a := t.cpu.a, f := t.cpu.f }, cycles := x.cost } ∧
      (∀ i < 8, t.cpu.a.getLsbD i =
        let p := s.cpu.a.getLsbD i
        let q := (x.source s).getLsbD i
        if op = .and then p && q else if op = .xor then p != q else p || q) ∧
      FlagsAre t (t.cpu.a = 0) False (op = .and) False

/-- INC and DEC of a register or of the byte at HL: C is kept (42_alu8 R209 to R212). -/
def Obligations.IncAndDecOfAByte : Prop :=
  ∀ (r : R8) (s : State),
    let v := (readR8 s r).toNat
    let n := if r = .indHl then 12 else 4
    let c := s.cpu.f.getLsbD 4 = true
    (encode (incOf r) = [(0x04 : Byte) ||| code r <<< 3] ∧
      ∃ t, exec (incOf r) s = .next t ∧ FlagsAre t ((v + 1) % 256 = 0) False (v % 16 = 0x0F) c ∧
        t = { writeR8 { s with cpu := { s.cpu with f := t.cpu.f } } r (BitVec.ofNat 8 (v + 1)) with cycles := n }) ∧
    (encode (decOf r) = [(0x05 : Byte) ||| code r <<< 3] ∧
      ∃ t, exec (decOf r) s = .next t ∧ FlagsAre t (v = 1) True (v % 16 = 0x00) c ∧
        t = { writeR8 { s with cpu := { s.cpu with f := t.cpu.f } } r (BitVec.ofNat 8 (v + 255)) with cycles := n })

/-- DAA, by the adjustment of its rule: N is kept, H cleared, C never cleared (42_alu8 R213). -/
def Obligations.DecimalAdjustResult : Prop :=
  ∀ s : State,
    let a := s.cpu.a.toNat
    let n := s.cpu.f.getLsbD 6 = true
    let h := s.cpu.f.getLsbD 5 = true
    let c := s.cpu.f.getLsbD 4 = true
    let low := if h ∨ (¬n ∧ a % 16 > 0x09) then 0x06 else 0x00
    let high := if c ∨ (¬n ∧ a > 0x99) then 0x60 else 0x00
    let r : Byte := if n then BitVec.ofNat 8 (a + 512 - (low + high)) else BitVec.ofNat 8 (a + (low + high))
    encode .daa = [0x27] ∧
    ∃ t, exec .daa s = .next t ∧ t = { s with cpu := { s.cpu with a := r, f := t.cpu.f }, cycles := 4 } ∧
      FlagsAre t (r = 0) n False (c ∨ (¬n ∧ a > 0x99))

/-- DAA corrects: after adding or subtracting two packed decimal bytes it leaves the packed decimal sum or difference modulo
100 in A, with C telling the carry or the borrow (the meaning of 42_alu8 R201, R203, R213 on decimal operands). -/
def Obligations.DecimalAdjustGivesDecimalArithmetic : Prop :=
  ∀ (p q : Nat) (s : State), p < 100 → q < 100 → s.cpu.a = packed p →
    (∃ t u, exec (.addAD8 (packed q)) s = .next t ∧ exec .daa t = .next u ∧
      u.cpu.a = packed ((p + q) % 100) ∧ (u.cpu.f.getLsbD 4 = true ↔ p + q ≥ 100)) ∧
    (∃ t u, exec (.subD8 (packed q)) s = .next t ∧ exec .daa t = .next u ∧
      u.cpu.a = packed ((p + 100 - q) % 100) ∧ (u.cpu.f.getLsbD 4 = true ↔ p < q))

/-- CPL, SCF and CCF (42_alu8 R214 to R216). -/
def Obligations.ComplementAndCarryFlagResults : Prop :=
  ∀ s : State,
    let z := s.cpu.f.getLsbD 7 = true
    let c := s.cpu.f.getLsbD 4 = true
    (encode .cpl = [0x2F] ∧
      ∃ t, exec .cpl s = .next t ∧ t = { s with cpu := { s.cpu with a := ~~~s.cpu.a, f := t.cpu.f }, cycles := 4 } ∧
        FlagsAre t z True True c) ∧
    (encode .scf = [0x37] ∧
      ∃ t, exec .scf s = .next t ∧ t = { s with cpu := { s.cpu with f := t.cpu.f }, cycles := 4 } ∧
        FlagsAre t z False False True) ∧
    (encode .ccf = [0x3F] ∧
      ∃ t, exec .ccf s = .next t ∧ t = { s with cpu := { s.cpu with f := t.cpu.f }, cycles := 4 } ∧
        FlagsAre t z False False (¬c))

/-! ## 16-bit arithmetic -/

/-- `ADD HL,rr`: Z is kept, H and C are the carries out of bits 11 and 15 (43_alu16 R240). -/
def Obligations.AddToHlResult : Prop :=
  ∀ (r : R16) (s : State),
    let h := s.hl.toNat
    let v := (readR16 s r).toNat
    let w : Word := BitVec.ofNat 16 (h + v)
    encode (addHlOf r) = [(0x09 : Byte) ||| pairCode r <<< 4] ∧
    ∃ t, exec (addHlOf r) s = .next t ∧
      t = { s with cpu := { s.cpu with h := hiByte w, l := loByte w, f := t.cpu.f }, cycles := 8 } ∧
      FlagsAre t (s.cpu.f.getLsbD 7 = true) False (h % 0x1000 + v % 0x1000 > 0x0FFF) (h + v > 0xFFFF)

/-- `INC rr` and `DEC rr` wrap modulo 65536 and change no flag (43_alu16 R241, R242). -/
def Obligations.IncAndDecOfAPair : Prop :=
  ∀ (r : R16) (s : State),
    let v := (readR16 s r).toNat
    (encode (incPairOf r) = [(0x03 : Byte) ||| pairCode r <<< 4] ∧
      exec (incPairOf r) s = .next { writeR16 s r (BitVec.ofNat 16 (v + 1)) with cycles := 8 }) ∧
    (encode (decPairOf r) = [(0x0B : Byte) ||| pairCode r <<< 4] ∧
      exec (decPairOf r) s = .next { writeR16 s r (BitVec.ofNat 16 (v + 65535)) with cycles := 8 })

/-! ## Rotates, shifts and bit instructions -/

/-- The rotates and shifts, bit by bit: those of the secondary table on every operand, which set Z from the result, and the
four of A, which clear Z (44_rotate_shift_bit R250 to R262). -/
def Obligations.RotateAndShiftResults : Prop :=
  (∀ (op : RotOp) (r : R8) (s : State),
    let v := readR8 s r
    encode (rotOf op r) = [(0xCB : Byte), rotCode op <<< 3 ||| code r] ∧
    ∃ w t, (∀ i < 8, w.getLsbD i = rotatedBit op v (s.cpu.f.getLsbD 4) i) ∧ exec (rotOf op r) s = .next t ∧
      t = { writeR8 { s with cpu := { s.cpu with f := t.cpu.f } } r w with cycles := if r = .indHl then 16 else 8 } ∧
      FlagsAre t (w = 0) False False (carryOut op v = true)) ∧
  ∀ s : State, ∀ x ∈ [(RotOp.rlc, Instr.rlca, (0x07 : Byte)), (.rrc, .rrca, 0x0F), (.rl, .rla, 0x17), (.rr, .rra, 0x1F)],
    encode x.2.1 = [x.2.2] ∧
    ∃ w t, (∀ i < 8, w.getLsbD i = rotatedBit x.1 s.cpu.a (s.cpu.f.getLsbD 4) i) ∧ exec x.2.1 s = .next t ∧
      t = { s with cpu := { s.cpu with a := w, f := t.cpu.f }, cycles := 4 } ∧
      FlagsAre t False False False (carryOut x.1 s.cpu.a = true)

/-- BIT, RES and SET of every bit and operand: BIT writes the flags alone and keeps C, RES and SET write the operand with one bit
changed and no flag (44_rotate_shift_bit R263 to R265). -/
def Obligations.BitInstructionResults : Prop :=
  ∀ (r : R8) (b : Nat) (s : State), b < 8 →
    let v := readR8 s r
    (∃ i, (bitRow r)[b]? = some i ∧ encode i = [(0xCB : Byte), (0x40 : Byte) ||| BitVec.ofNat 8 b <<< 3 ||| code r] ∧
      ∃ t, exec i s = .next t ∧
        t = { s with cpu := { s.cpu with f := t.cpu.f }, cycles := if r = .indHl then 12 else 8 } ∧
        FlagsAre t (v.getLsbD b = false) False True (s.cpu.f.getLsbD 4 = true)) ∧
    (∃ i, (resRow r)[b]? = some i ∧ encode i = [(0xCB : Byte), (0x80 : Byte) ||| BitVec.ofNat 8 b <<< 3 ||| code r] ∧
      ∃ w : Byte, (∀ j < 8, w.getLsbD j = (v.getLsbD j && decide (j ≠ b))) ∧
        exec i s = .next { writeR8 s r w with cycles := if r = .indHl then 16 else 8 }) ∧
    (∃ i, (setRow r)[b]? = some i ∧ encode i = [(0xCB : Byte), (0xC0 : Byte) ||| BitVec.ofNat 8 b <<< 3 ||| code r] ∧
      ∃ w : Byte, (∀ j < 8, w.getLsbD j = (v.getLsbD j || decide (j = b))) ∧
        exec i s = .next { writeR8 s r w with cycles := if r = .indHl then 16 else 8 })

/-! ## Control transfer -/

/-- The jumps: to the word, to HL, or by the signed offset from the address of the next instruction; a condition not met leaves
everything but the cycles (45_control R279 to R284). -/
def Obligations.JumpsSetPc : Prop :=
  ∀ (cc : Cond) (w : Word) (n : Byte) (s : State),
    let near : Word := BitVec.ofInt 16 ((s.cpu.pc.toNat : Int) + n.toInt)
    let goes (t : Word) (k : Nat) : State := { s with cpu := { s.cpu with pc := t }, cycles := k }
    (encode (.jpA16 w) = [0xC3, loByte w, hiByte w] ∧ exec (.jpA16 w) s = .next (goes w 16)) ∧
    (encode (jumpOf cc w) = [(0xC2 : Byte) ||| condCode cc <<< 3, loByte w, hiByte w] ∧
      exec (jumpOf cc w) s = .next (if taken s cc then goes w 16 else { s with cycles := 12 })) ∧
    (encode .jpHl = [0xE9] ∧ exec .jpHl s = .next (goes s.hl 4)) ∧
    (encode (.jrE8 n) = [0x18, n] ∧ exec (.jrE8 n) s = .next (goes near 12)) ∧
    (encode (relativeOf cc n) = [(0x20 : Byte) ||| condCode cc <<< 3, n] ∧
      exec (relativeOf cc n) s = .next (if taken s cc then goes near 12 else { s with cycles := 8 }))

/-- The calls and restarts push the address of the next instruction and jump; a condition not met pushes nothing
(45_control R285, R286, R290). -/
def Obligations.CallsPushTheReturnAddress : Prop :=
  ∀ (cc : Cond) (w : Word) (s : State),
    let goes (t : Word) (k : Nat) : State :=
      { pushed s s.cpu.pc with cpu := { s.cpu with sp := s.cpu.sp - 2, pc := t }, cycles := k }
    (encode (.callA16 w) = [0xCD, loByte w, hiByte w] ∧ exec (.callA16 w) s = .next (goes w 24)) ∧
    (encode (callOf cc w) = [(0xC4 : Byte) ||| condCode cc <<< 3, loByte w, hiByte w] ∧
      exec (callOf cc w) s = .next (if taken s cc then goes w 24 else { s with cycles := 12 })) ∧
    ∀ y < 8, ∃ i, restarts[y]? = some i ∧ encode i = [(0xC7 : Byte) ||| BitVec.ofNat 8 y <<< 3] ∧
      exec i s = .next (goes (BitVec.ofNat 16 (8 * y)) 16)

/-- The returns pop PC; RETI also sets IME at once and drops a pending enable; a condition not met pops nothing (45_control
R287 to R289, 60_exceptions R334). -/
def Obligations.ReturnsPopPc : Prop :=
  ∀ (cc : Cond) (s : State),
    let back (k : Nat) : State := { s with cpu := { s.cpu with pc := poppedWord s, sp := s.cpu.sp + 2 }, cycles := k }
    (encode .ret = [0xC9] ∧ exec .ret s = .next (back 16)) ∧
    (encode (returnOf cc) = [(0xC0 : Byte) ||| condCode cc <<< 3] ∧
      exec (returnOf cc) s = .next (if taken s cc then back 20 else { s with cycles := 8 })) ∧
    (encode .reti = [0xD9] ∧
      exec .reti s = .next { back 16 with irq := { s.irq with ime := true, imePending := false } })

/-- A return straight after a call comes back: where the two stack bytes are plain storage, PC and SP are those of before the
call, and no register, flag or device has changed (45_control R285, R287; 20_memory R64). -/
def Obligations.ReturnUndoesCall : Prop :=
  ∀ (s : State) (w : Word) (k1 k2 : Nat), s.mem.wf → owner (s.cpu.sp - 1) = .store k1 → owner (s.cpu.sp - 2) = .store k2 →
    ∃ t u, exec (.callA16 w) s = .next t ∧ exec .ret t = .next u ∧
      u = { s with mem := u.mem, cycles := 16 } ∧
      ∀ a, a ≠ k1 → a ≠ k2 → u.mem.read a = s.mem.read a

/-! ## System instructions -/

/-- NOP, HALT, STOP (whatever its second byte), DI, EI and the eleven illegal opcodes, each with its bytes and its whole effect
(46_system R300 to R304, R306). -/
def Obligations.SystemInstructionResults : Prop :=
  ∀ (pad : Byte) (s : State),
    (encode .nop = [0x00] ∧ exec .nop s = .next { s with cycles := 4 }) ∧
    (encode .halt = [0x76] ∧ exec .halt s = .next { s with cpu := { s.cpu with halted := true }, cycles := 4 }) ∧
    (encode (.stop pad) = [0x10, pad] ∧
      exec (.stop pad) s = .next { s with cpu := { s.cpu with stopped := true }, cycles := 4 }) ∧
    (encode .di = [0xF3] ∧
      exec .di s = .next { s with irq := { s.irq with ime := false, imePending := false }, cycles := 4 }) ∧
    (encode .ei = [0xFB] ∧ exec .ei s = .next { s with irq := { s.irq with imePending := true }, cycles := 4 }) ∧
    ∀ x ∈ illegals, encode x.2 = [x.1] ∧ exec x.2 s = .next { s with cycles := 4 }

/-- The prefix byte fetches a second byte and runs the instruction of the secondary table that it selects; it completes
(46_system R305). -/
def Obligations.PrefixRunsTheSecondaryInstruction : Prop :=
  ∀ s : State,
    let u : State := { s with cpu := { s.cpu with pc := s.cpu.pc + 1 } }
    exec .prefixCb s = exec (decodeBytes 0xCB (busRead s s.cpu.pc) 0) u ∧ ∃ t, exec .prefixCb s = .next t

/-- Every instruction completes, and costs the cycles of its cell of the opcode tables, a conditional transfer by its condition
(70_reset_and_hazards R473, 30_encoding R130, R135). -/
def Obligations.EveryInstructionCostsItsTableCycles : Prop :=
  ∀ (i : Instr) (s : State), ∃ t, exec i s = .next t ∧ t.cycles = cyclesOf i s

/-! ## What instructions leave alone -/

/-- No instruction changes a general register but its destinations and, where its addressing mode updates it, HL (10_state
R22). -/
def Obligations.OtherRegistersAreKept : Prop :=
  ∀ (i : Instr) (s t : State) (r : R8), exec i s = .next t → r ≠ .indHl → r ∉ destinations i s → readR8 t r = readR8 s r

/-- Every instruction treats every flag as its cell of the *flags* column says: kept, cleared, set or computed; and F's low
nibble stays 0 (30_encoding R130, R135; 10_state R24, R25). -/
def Obligations.FlagsFollowTheirColumn : Prop :=
  ∀ (i : Instr) (s t : State), exec i s = .next t →
    (flagsOf i s).1.obeyed (s.cpu.f.getLsbD 7) (t.cpu.f.getLsbD 7) ∧
    (flagsOf i s).2.1.obeyed (s.cpu.f.getLsbD 6) (t.cpu.f.getLsbD 6) ∧
    (flagsOf i s).2.2.1.obeyed (s.cpu.f.getLsbD 5) (t.cpu.f.getLsbD 5) ∧
    (flagsOf i s).2.2.2.obeyed (s.cpu.f.getLsbD 4) (t.cpu.f.getLsbD 4) ∧
    (s.cpu.f &&& 0x0F = 0 → t.cpu.f &&& 0x0F = 0)

/-- SP changes by the stack instructions and the loads and sums of SP alone; PC, past the instruction's bytes, by the control
transfers alone; the prefix byte passes one more byte (10_state R22, R27). -/
def Obligations.SpAndPcAreKept : Prop :=
  ∀ (i : Instr) (s t : State), exec i s = .next t →
    (writesSp i = false → t.cpu.sp = s.cpu.sp) ∧ (writesPc i = false → t.cpu.pc = s.cpu.pc) ∧
    (i = .prefixCb → t.cpu.pc = s.cpu.pc + 1)

/-- Of the instructions HALT alone sets `halted`, STOP alone sets `stopped`, RETI alone sets IME, DI alone clears it, and EI, DI
and RETI alone write the pending enable (10_state R29 to R32). -/
def Obligations.ControlBitsChangeByTheirInstructions : Prop :=
  ∀ (i : Instr) (s t : State), exec i s = .next t →
    t.cpu.halted = (if i = .halt then true else s.cpu.halted) ∧
    t.cpu.stopped = (match i with
      | .stop _ => true
      | _ => s.cpu.stopped) ∧
    t.irq.ime = (if i = .reti then true else if i = .di then false else s.irq.ime) ∧
    t.irq.imePending = (if i = .ei then true else if i = .reti ∨ i = .di then false else s.irq.imePending)

/-- No instruction changes what the bus reads at an address but by its own stores: every byte that none of them touches reads
as before; an instruction that stores nothing changes none, and no byte of the memory itself (20_memory R62, R110). -/
def Obligations.OtherBytesAreKept : Prop :=
  ∀ (i : Instr) (s t : State), s.mem.wf → exec i s = .next t →
    (∀ a, (∀ w ∈ storeTargets i s, touched w a = false) → busRead t a = busRead s a) ∧
    (storeTargets i s = [] → t.mem = s.mem)

/-- No instruction changes a device register, visible or hidden, but by a store to that device's addresses; none changes the
cartridge, the buttons, the host's inputs or the frame handed off (10_state R38, 20_memory R70). -/
def Obligations.OtherDevicesAreKept : Prop :=
  ∀ (i : Instr) (s t : State), exec i s = .next t →
    ((∀ w ∈ storeTargets i s, w ∉ [(0xFF04 : Word), 0xFF05, 0xFF06, 0xFF07]) → t.timer = s.timer) ∧
    ((∀ w ∈ storeTargets i s, w.toNat < 0xFF40 ∨ 0xFF4B < w.toNat ∨ w = 0xFF46) → t.ppu = s.ppu) ∧
    ((∀ w ∈ storeTargets i s, w ≠ 0xFF46) → t.dma = s.dma) ∧
    ((∀ w ∈ storeTargets i s, w ≠ 0xFF00) → t.joypad = s.joypad) ∧
    ((∀ w ∈ storeTargets i s, w ≠ 0xFF0F) → t.irq.ifl = s.irq.ifl) ∧
    ((∀ w ∈ storeTargets i s, w ≠ 0xFFFF) → t.irq.ie = s.irq.ie) ∧
    t.cart = s.cart ∧ t.joypad.buttons = s.joypad.buttons ∧ t.inputs = s.inputs ∧ t.frame = s.frame

/-! ## The bus -/

/-- What a read gives after a write to the same address, for every address: the byte in plain storage, the stored bits and the
fixed ones in a device register, and what no write changes elsewhere (20_memory R64, R70, R80, R84). -/
def Obligations.ReadAfterWriteGivesTheRegister : Prop :=
  ∀ (s : State) (a : Word) (v : Byte), s.mem.wf →
    let r := busRead (busWrite s a v) a
    let n := a.toNat
    ((0x8000 ≤ n ∧ n < 0xA000 ∨ 0xC000 ≤ n ∧ n < 0xFEA0 ∨ 0xFF80 ≤ n) → r = v) ∧
    (n < 0x8000 → r = busRead s a) ∧
    ((0xA000 ≤ n ∧ n < 0xC000 ∨ 0xFEA0 ≤ n ∧ n < 0xFF00) → r = 0xFF) ∧
    (a = 0xFF00 → r = (0xC0 : Byte) ||| (v &&& (0x30 : Byte)) |||
      ((0x0F : Byte) &&& ~~~((if v.getLsbD 4 then (0 : Byte) else s.joypad.buttons &&& 0x0F) |||
        (if v.getLsbD 5 then (0 : Byte) else s.joypad.buttons >>> 4)))) ∧
    ((a = 0xFF04 ∨ a = 0xFF44) → r = 0x00) ∧
    (a = 0xFF07 → r = 0xF8 ||| (v &&& 0x07)) ∧
    (a = 0xFF0F → r = 0xE0 ||| (v &&& 0x1F)) ∧
    (a = 0xFF41 → r = 0x80 ||| (v &&& 0x78) ||| (busRead s 0xFF41 &&& 0x07)) ∧
    ((0xFF00 ≤ n ∧ n < 0xFF80 ∧ a ∉ [(0xFF00 : Word), 0xFF04, 0xFF07, 0xFF0F, 0xFF41, 0xFF44]) → r = v)

/-- A byte write changes what the bus reads only where it may: at the address and its mirror, and at the few registers a write
to another one changes (20_memory R62, R63, R103). -/
def Obligations.WritesTouchOnlyTheirAddresses : Prop :=
  ∀ (s : State) (w a : Word) (v : Byte), s.mem.wf → touched w a = false → busRead (busWrite s w v) a = busRead s a

/-- The cartridge answers in its ranges: ROM reads its byte, external RAM 0xFF, and no write changes anything; the unused range
reads 0xFF and drops writes; the mirror is work RAM, for reads and writes (20_memory R64, R67). -/
def Obligations.RegionsAnswerAsMapped : Prop :=
  ∀ (s : State) (a : Word) (v : Byte),
    let n := a.toNat
    (n < 0x8000 → busRead s a = s.cart.rom.read n) ∧
    ((0xA000 ≤ n ∧ n < 0xC000 ∨ 0xFEA0 ≤ n ∧ n < 0xFF00) → busRead s a = 0xFF) ∧
    ((n < 0x8000 ∨ 0xA000 ≤ n ∧ n < 0xC000 ∨ 0xFEA0 ≤ n ∧ n < 0xFF00) → busWrite s a v = s) ∧
    (0xE000 ≤ n ∧ n < 0xFE00 → busRead s a = busRead s (a - 0x2000) ∧ busWrite s a v = busWrite s (a - 0x2000) v)

/-- A write of `v` to the DMA trigger copies the 160 bytes of the page `v`, as the bus reads them with DMA already written, into
OAM, and changes nothing else (20_memory R90). -/
def Obligations.OamCopyIsThePage : Prop :=
  ∀ (s : State) (v : Byte), s.mem.wf →
    let t := busWrite s 0xFF46 v
    t = { s with dma := v, mem := t.mem } ∧
    (∀ i < 160, busRead t (BitVec.ofNat 16 (0xFE00 + i)) =
      busRead { s with dma := v } (BitVec.ofNat 16 (v.toNat * 256 + i))) ∧
    ∀ a, (a < 0xFE00 ∨ 0xFEA0 ≤ a) → t.mem.read a = s.mem.read a

/-! ## The timer -/

/-- The counter advances by every cycle unit, DIV every 256; TIMA counts once per 1024, 16, 64 or 256 units while enabled and
short of overflow, and not at all while disabled (61_timer R374, R378). -/
def Obligations.TimerCountsAtItsRate : Prop :=
  ∀ (n : Nat) (s : State),
    let t := timerStep n s
    let c := s.timer.sysCounter.toNat
    let k := (c + n) / timerPeriod s.timer - c / timerPeriod s.timer
    (t.timer.sysCounter = BitVec.ofNat 16 (c + n) ∧ busRead t 0xFF04 = BitVec.ofNat 8 ((c + n) / 256) ∧
      t.timer.tac = s.timer.tac ∧ t.timer.tma = s.timer.tma) ∧
    (s.timer.reloadDelay = 0 → s.timer.tac.getLsbD 2 = false → t.timer.tima = s.timer.tima ∧ t.irq = s.irq) ∧
    (s.timer.reloadDelay = 0 → s.timer.tac.getLsbD 2 = true → s.timer.tima.toNat + k ≤ 255 →
      t.timer.tima.toNat = s.timer.tima.toNat + k ∧ t.irq = s.irq)

/-- A write to DIV clears the counter, a write to TAC stores three bits, and either increments TIMA at once when it takes the
timer signal from 1 to 0; a write to TIMA cancels a pending reload; one to TMA writes TMA alone; and what each reads as, also
at reset (61_timer R370 to R373, R375, R377). -/
def Obligations.TimerWritesObeyTheEdgeRule : Prop :=
  ∀ (s : State) (v : Byte),
    let t := s.timer
    let up (u : Timer) : Timer :=
      if u.tima = 0xFF then { u with tima := 0x00, reloadDelay := 4 } else { u with tima := u.tima + 1 }
    let signal := t.tac.getLsbD 2 && t.sysCounter.getLsbD (timerBit t.tac)
    let after := v.getLsbD 2 && t.sysCounter.getLsbD (timerBit (v.extractLsb' 0 3))
    busWrite s 0xFF04 v =
      { s with timer := if signal then up { t with sysCounter := 0 } else { t with sysCounter := 0 } } ∧
    busWrite s 0xFF05 v = { s with timer := { t with tima := v, reloadDelay := 0 } } ∧
    busWrite s 0xFF06 v = { s with timer := { t with tma := v } } ∧
    busWrite s 0xFF07 v =
      { s with
        timer := if signal && !after then up { t with tac := v.extractLsb' 0 3 } else { t with tac := v.extractLsb' 0 3 } } ∧
    (busRead s 0xFF04 = t.sysCounter.extractLsb' 8 8 ∧ busRead s 0xFF05 = t.tima ∧ busRead s 0xFF06 = t.tma ∧
      busRead s 0xFF07 = 0xF8 ||| t.tac.setWidth 8) ∧
    (busRead State.reset 0xFF04 = 0xAB ∧ busRead State.reset 0xFF05 = 0x00 ∧ busRead State.reset 0xFF06 = 0x00 ∧
      busRead State.reset 0xFF07 = 0xF8)

/-- When TIMA overflows it reads 0 for four cycle units without a request; the unit after them loads TMA and makes the Timer
request (61_timer R374 to R376). -/
def Obligations.TimerReloadsFourUnitsAfterOverflow : Prop :=
  ∀ s : State, s.timer.tac.getLsbD 2 = true → s.timer.reloadDelay = 0 → s.timer.tima = 0xFF →
    s.timer.sysCounter.getLsbD (timerBit s.timer.tac) = true →
    (s.timer.sysCounter + 1).getLsbD (timerBit s.timer.tac) = false →
    (∀ n, 1 ≤ n → n ≤ 4 → (timerStep n s).timer.tima = 0x00 ∧ (timerStep n s).irq = s.irq ∧
      (timerStep n s).timer.reloadDelay = 5 - n) ∧
    (timerStep 5 s).timer.tima = s.timer.tma ∧ (timerStep 5 s).timer.reloadDelay = 0 ∧
    (timerStep 5 s).irq = { s.irq with ifl := s.irq.ifl ||| 0b00100 }

/-! ## The picture processing unit -/

/-- With the LCD on, the PPU goes through the 70224 places of its frame, one a cycle unit, and from any place hands a frame off
in a stretch of units exactly when the stretch enters line 144; so once per 70224 units, never less, never more (62_ppu R420 to
R422, R432). -/
def Obligations.OneFramePerFullRefresh : Prop :=
  ∀ (n : Nat) (s : State), bit s.ppu.lcdc 7 = true → InFrame s.ppu →
    let t := ppuStep n s
    InFrame t.ppu ∧ framePosition t.ppu = (framePosition s.ppu + n) % 70224 ∧
    (t.frame.isSome = true ↔ ∃ k, 0 < k ∧ k ≤ n ∧ (framePosition s.ppu + k) % 70224 = 65664)

/-- One cycle unit of the PPU: the request for LCD-STAT on a rising edge of the STAT signal alone, the one for VBlank at the entry
to line 144 alone, with the frame handed off there; no other request is made or withdrawn. A write to STAT or LYC does not
evaluate the signal (62_ppu R420, R431, R432, R440). -/
def Obligations.PpuRequestsInterruptsOnTheirEvents : Prop :=
  (∀ s : State, InFrame s.ppu →
    let t := ppuTick s
    let p := t.ppu
    let line := (p.statEnables.getLsbD 3 && decide (p.ly = p.lyc)) || (p.statEnables.getLsbD 2 && decide (p.mode = .oamSearch)) ||
      (p.statEnables.getLsbD 1 && decide (p.mode = .vBlank)) || (p.statEnables.getLsbD 0 && decide (p.mode = .hBlank))
    let enters := decide (framePosition s.ppu + 1 = 65664)
    p.statLine = line ∧
    t.irq = { s.irq with ifl :=
      s.irq.ifl ||| (if enters then 0b00001 else 0) ||| (if line && !s.ppu.statLine then 0b00010 else 0) } ∧
    t.frame = if enters then some s.ppu.framebuffer else s.frame) ∧
  ∀ (s : State) (v : Byte),
    busWrite s 0xFF41 v = { s with ppu := { s.ppu with statEnables := v.extractLsb' 3 4 } } ∧
    busWrite s 0xFF45 v = { s with ppu := { s.ppu with lyc := v } }

/-- A row of the frame buffer is composited at the end of pixel-transfer, from the registers and memories of that moment, the
winning sprite or the background through its palette; no other unit, and no other row, changes the frame buffer (62_ppu R407,
R430, R454). -/
def Obligations.RowIsCompositedAtTheEndOfPixelTransfer : Prop :=
  ∀ (s : State) (x y : Nat) (hx : x < 160) (hy : y < 144),
    let shade (p : Byte) (c : Colour) : Colour := p.extractLsb' (2 * c.toNat) 2
    (ppuTick s).ppu.framebuffer[y][x] =
      if s.ppu.mode = .pixelTransfer ∧ s.ppu.dot + 1 = 172 ∧ s.ppu.ly.toNat = y then
        (let bgc := bgColour s.ppu s.mem x y
         let back := if s.ppu.lcdc.getLsbD 0 then shade s.ppu.bgp bgc else 0
         match leftmost (opaqueAt s.mem (if s.ppu.lcdc.getLsbD 2 then 16 else 8) x y (selectSprites s.ppu s.mem y)) with
         | none => back
         | some w =>
           if w.1.attr.getLsbD 7 = true ∧ bgc ≠ 0 then back
           else shade (if w.1.attr.getLsbD 4 then s.ppu.obp1 else s.ppu.obp0) w.2)
      else s.ppu.framebuffer[y][x]

/-- The colour number of a background pixel outside the window, and of a window pixel, from the two bytes of its tile row; the
blank layers give 0 (62_ppu R450). -/
def Obligations.BackgroundPixelReadsItsTile : Prop :=
  ∀ (p : Ppu) (m : Memory) (x y : Nat), x < 160 → y < 144 →
    let window := p.lcdc.getLsbD 5 = true ∧ p.wy.toNat ≤ y ∧ p.wx.toNat ≤ x + 7
    let px := if window then x + 7 - p.wx.toNat else (x + p.scx.toNat) % 256
    let py := if window then y - p.wy.toNat else (y + p.scy.toNat) % 256
    let high := if window then p.lcdc.getLsbD 6 = true else p.lcdc.getLsbD 3 = true
    let map := if high then 0x9C00 else 0x9800
    let t := (m.read (map + 32 * (py / 8) + px / 8)).toNat
    let base := if p.lcdc.getLsbD 4 = true then 0x8000 + 16 * t else 0x8800 + 16 * ((t + 128) % 256)
    let lo := m.read (base + 2 * (py % 8))
    let hi := m.read (base + 2 * (py % 8) + 1)
    (bgColour p m x y).toNat =
      if p.lcdc.getLsbD 0 = true then 2 * (hi.getLsbD (7 - px % 8)).toNat + (lo.getLsbD (7 - px % 8)).toNat else 0

/-- A sprite is four bytes of OAM: Y, X, tile, attributes. The sprites of a row are the first ten entries in OAM order whose rows
reach it, none with sprites off; a selected sprite shows at `x` the colour number of its tile's pixel, flipped as its attributes
say, and nothing where it does not cover `x` or that number is 0; those that show keep their OAM order, and of them the one with
the smallest X wins, the first in OAM order among equals, and none when none shows. VRAM and OAM are read where the bus reads them
(62_ppu R409, R451 to R453; 20_memory R64). -/
def Obligations.SpritesAreSelectedInOamOrder : Prop :=
  (∀ (m : Memory) (i : Nat),
    oamEntry m i =
      { y := m.read (0xFE00 + 4 * i), x := m.read (0xFE00 + 4 * i + 1), tile := m.read (0xFE00 + 4 * i + 2)
        attr := m.read (0xFE00 + 4 * i + 3) }) ∧
  (∀ (s : State) (a : Word), 0x8000 ≤ a.toNat ∧ a.toNat < 0xA000 ∨ 0xFE00 ≤ a.toNat ∧ a.toNat < 0xFEA0 →
    busRead s a = s.mem.read a.toNat) ∧
  (∀ (p : Ppu) (m : Memory) (y : Nat),
    let on (e : Sprite) : Bool :=
      decide (e.y.toNat ≤ y + 16 ∧ y + 16 < e.y.toNat + if p.lcdc.getLsbD 2 then 16 else 8)
    selectSprites p m y =
      if p.lcdc.getLsbD 1 then (((List.range 40).map (oamEntry m)).filter on).take 10 else []) ∧
  (∀ (e : Sprite) (m : Memory) (h x y : Nat), h = 8 ∨ h = 16 → e.y.toNat ≤ y + 16 → y + 16 < e.y.toNat + h →
    let down := y + 16 - e.y.toNat
    let row := if e.attr.getLsbD 6 then h - 1 - down else down
    let right := x + 8 - e.x.toNat
    let place := if e.attr.getLsbD 5 then right else 7 - right
    let tile := if h = 16 then e.tile.toNat / 2 * 2 else e.tile.toNat
    let lo := m.read (0x8000 + 16 * tile + 2 * row)
    let hi := m.read (0x8000 + 16 * tile + 2 * row + 1)
    (e.colourAt m h x y).map BitVec.toNat =
      if e.x.toNat ≤ x + 8 ∧ x < e.x.toNat then some (2 * (hi.getLsbD place).toNat + (lo.getLsbD place).toNat) else none) ∧
  (∀ (m : Memory) (h x y : Nat) (l : List Sprite) (e : Sprite) (c : Colour),
    (e, c) ∈ opaqueAt m h x y l ↔ e ∈ l ∧ c ≠ 0 ∧ e.colourAt m h x y = some c) ∧
  (∀ (m : Memory) (h x y : Nat) (l : List Sprite),
    (opaqueAt m h x y l).map Prod.fst =
      l.filter fun e => decide (e.colourAt m h x y ≠ none ∧ e.colourAt m h x y ≠ some 0)) ∧
  leftmost [] = none ∧
  ∀ (l : List (Sprite × Colour)) (i : Nat) (w : Sprite × Colour), l[i]? = some w →
    (∀ j v, l[j]? = some v → w.1.x.toNat < v.1.x.toNat ∨ (w.1.x = v.1.x ∧ i ≤ j)) → leftmost l = some w

/-- LCDC bit 7, by the spec's own choice (92_eei_decisions D17): switching the LCD off puts the PPU at rest at line 0 in mode 0;
while off `PPU.step` does nothing; switching it on starts line 0 in mode 2; any other write to LCDC changes LCDC alone (62_ppu
R401, R433). -/
def Obligations.LcdSwitchesOffAndOn : Prop :=
  ∀ (s : State) (v : Byte) (n : Nat),
    let p := s.ppu
    busWrite s 0xFF40 v =
      { s with
        ppu :=
          if p.lcdc.getLsbD 7 = true ∧ v.getLsbD 7 = false then
            { p with lcdc := v, ly := 0, dot := 0, mode := .hBlank, statLine := false }
          else if p.lcdc.getLsbD 7 = false ∧ v.getLsbD 7 = true then { p with lcdc := v, mode := .oamSearch, dot := 0 }
          else { p with lcdc := v } } ∧
    (p.lcdc.getLsbD 7 = false → ppuStep n s = { s with frame := none })

/-! ## The joypad -/

/-- P1 reads the selected buttons, active low, below the stored select bits, which alone a write to it changes; a new button
value requests Joypad exactly when a selected line falls, ends the stopped state when any button goes down, and changes nothing
else (20_memory R80, R81). -/
def Obligations.JoypadLinesAndEvents : Prop :=
  ∀ (s : State) (now : Byte),
    let lines (b : Byte) : Byte :=
      (0x0F : Byte) &&& ~~~((if s.joypad.p1Select.getLsbD 0 then (0 : Byte) else b &&& 0x0F) |||
        (if s.joypad.p1Select.getLsbD 1 then (0 : Byte) else b >>> 4))
    let old := lines s.joypad.buttons
    let new := lines now
    busRead s 0xFF00 = (0xC0 : Byte) ||| s.joypad.p1Select.setWidth 8 <<< 4 ||| old ∧
    busWrite s 0xFF00 now = { s with joypad := { s.joypad with p1Select := now.extractLsb' 4 2 } } ∧
    pressButtons now s =
      { s with
        joypad := { s.joypad with buttons := now }
        irq := { s.irq with ifl := s.irq.ifl ||| (if old &&& ~~~new = 0 then 0 else 0b10000) }
        cpu := { s.cpu with stopped := s.cpu.stopped && decide (now &&& ~~~s.joypad.buttons = 0) } }

/-! ## Reset and the legal states -/

/-- The reset values, as the reset table gives them; the host's reset puts every element of CORE's state at its value and
leaves the cartridge as it is (70_reset_and_hazards R460, R461; 20_memory R85). -/
def Obligations.ResetValuesAreTheTable : Prop :=
  let s := State.reset
  (∀ u : State, (hostReset u).cart = u.cart ∧ (hostReset u).cpu = s.cpu ∧ (hostReset u).irq = s.irq ∧
    (hostReset u).timer = s.timer ∧ (hostReset u).ppu = s.ppu ∧ (hostReset u).joypad = s.joypad ∧
    (hostReset u).dma = s.dma ∧ (hostReset u).mem = s.mem) ∧
  s.cpu = { a := 0x01, f := 0xB0, b := 0x00, c := 0x13, d := 0x00, e := 0xD8, h := 0x01, l := 0x4D
            sp := 0xFFFE, pc := 0x0100, halted := false, stopped := false } ∧
  s.irq = { ie := 0x00, ifl := 0b00001, ime := false, imePending := false } ∧
  s.timer = { sysCounter := 0xABCC, tima := 0x00, tma := 0x00, tac := 0b000, reloadDelay := 0 } ∧
  (s.ppu.mode = .oamSearch ∧ s.ppu.ly = 0 ∧ s.ppu.dot = 0 ∧ s.ppu.lcdc = 0x91 ∧ s.ppu.statEnables = 0b0000 ∧
    s.ppu.scy = 0x00 ∧ s.ppu.scx = 0x00 ∧ s.ppu.lyc = 0x00 ∧ s.ppu.bgp = 0xFC ∧ s.ppu.obp0 = 0xFF ∧ s.ppu.obp1 = 0xFF ∧
    s.ppu.wy = 0x00 ∧ s.ppu.wx = 0x00 ∧ s.ppu.statLine = false ∧
    s.ppu.framebuffer = Vector.replicate 144 (Vector.replicate 160 0)) ∧
  s.joypad = { p1Select := 0b00, buttons := 0x00 } ∧ s.dma = 0xFF ∧
  (∀ n < 0x10000, (0x8000 ≤ n ∧ n < 0xA000 ∨ 0xC000 ≤ n ∧ n < 0xFEA0 ∨ 0xFF80 ≤ n) →
    busRead s (BitVec.ofNat 16 n) = 0x00) ∧
  ∀ n < 0x80, n ∉ ioDevices → busRead s (BitVec.ofNat 16 (0xFF00 + n)) = (ioTable.lookup n).getD 0xFF

/-- The state after reset is legal: F's low nibble, the memories' canonical form, the PPU's budgets, the reload window (10_state
R24, R34, R36; 62_ppu R433). -/
def Obligations.ResetStateIsLegal : Prop := Safety.Legal State.reset

/-- Every step from every legal state, whatever the host presses, leaves a legal state: F's low nibble is 0, the memories keep
their canonical form and list only storage, the PPU stays within its mode budgets and rests while off, the reload window stays
within 0 to 4 (10_state R24, R34, R36; 62_ppu R433). -/
def Obligations.EveryStepKeepsTheStateLegal : Prop :=
  ∀ s t : State, Safety.Legal s → step s = .next t → Safety.Legal t
end

