-- ==== Sys2Proof/Laws/Memory.lean ====
section
/-! SUPPORT. The laws of the sparse memory: what a write changes, and that it keeps the canonical form. -/

namespace Sys2Proof.Machine

/-- No entry at or above `a` in a list all of whose keys lie above `a` reads as `unlisted a`. -/
theorem Memory.read_of_lt (m : Memory) (a : Nat) (h : ∀ c ∈ m, a < c.1) : m.read a = unlisted a := by
  induction m with
  | nil => rfl
  | cons x m ih =>
    have hx := h x (by simp)
    have hm := ih fun c hc => h c (by simp [hc])
    obtain ⟨k, v⟩ := x
    simp only [Memory.read]
    rw [if_neg (by simp at hx; omega), hm]

/-- A canonical list reads back what was written, and every other address reads as before. -/
theorem Memory.read_write (m : Memory) (h : m.wf) (a b : Nat) (v : Byte) :
    (m.write a v).read b = if b = a then v else m.read b := by
  induction m with
  | nil =>
    by_cases hv : v = unlisted a <;> by_cases hb : b = a <;>
      simp_all [Memory.write, Memory.read, eq_comm]
  | cons x m ih =>
    obtain ⟨k, w⟩ := x
    obtain ⟨hp, hu⟩ := h
    rw [List.pairwise_cons] at hp
    have hm : Memory.wf m := ⟨hp.2, fun c hc => hu c (by simp [hc])⟩
    have ih := ih hm
    simp only [Memory.write]
    split
    · rename_i hlt
      have hread : Memory.read ((k, w) :: m) a = unlisted a :=
        Memory.read_of_lt _ _ fun c hc => by
          rcases List.mem_cons.mp hc with rfl | hc
          · exact hlt
          · exact Nat.lt_trans hlt (hp.1 c hc)
      split
      · rename_i hv
        by_cases hb : b = a
        · simp [hb, hread, hv]
        · simp [hb]
      · by_cases hb : b = a
        · simp [hb, Memory.read]
        · simp [hb, Memory.read, Ne.symm hb]
    · split
      · rename_i _ hk
        subst hk
        split
        · rename_i hv
          by_cases hb : b = a
          · subst hb
            simp [hv, Memory.read_of_lt m b fun c hc => hp.1 c hc]
          · simp [hb, Memory.read, Ne.symm hb]
        · by_cases hb : b = a
          · simp [hb, Memory.read]
          · simp [hb, Memory.read, Ne.symm hb]
      · rename_i hlt hne
        simp only [Memory.read]
        by_cases hk : k = b
        · rw [if_pos hk, if_pos hk, if_neg (by omega)]
        · rw [if_neg hk, if_neg hk, ih]

/-- Every entry of the list after a write is the written one or an entry of before. -/
theorem Memory.mem_write (m : Memory) (a : Nat) (v : Byte) (c : Host.Cell) (h : c ∈ m.write a v) :
    (c = (a, v) ∧ v ≠ unlisted a) ∨ c ∈ m := by
  induction m with
  | nil =>
    simp only [Memory.write] at h
    split at h
    · simp at h
    · rename_i hv; left; simpa [hv] using h
  | cons x m ih =>
    obtain ⟨k, w⟩ := x
    simp only [Memory.write] at h
    split at h
    · split at h
      · exact .inr h
      · rename_i hv
        rcases List.mem_cons.mp h with h | h
        · exact .inl ⟨h, hv⟩
        · exact .inr h
    · split at h
      · split at h
        · exact .inr (List.mem_cons_of_mem _ h)
        · rename_i hv
          rcases List.mem_cons.mp h with h | h
          · exact .inl ⟨h, hv⟩
          · exact .inr (List.mem_cons_of_mem _ h)
      · rcases List.mem_cons.mp h with h | h
        · exact .inr (by simp [h])
        · rcases ih h with h | h
          · exact .inl h
          · exact .inr (List.mem_cons_of_mem _ h)

/-- A write keeps the canonical form. -/
theorem Memory.write_wf (m : Memory) (h : m.wf) (a : Nat) (v : Byte) : (m.write a v).wf := by
  induction m with
  | nil => by_cases hv : v = unlisted a <;> simp [Memory.write, Memory.wf, hv]
  | cons x m ih =>
    obtain ⟨k, w⟩ := x
    obtain ⟨hp, hu⟩ := h
    rw [List.pairwise_cons] at hp
    have hm : Memory.wf m := ⟨hp.2, fun c hc => hu c (by simp [hc])⟩
    have hw := hu (k, w) (by simp)
    simp only [Memory.write]
    split
    · rename_i hlt
      split
      · exact ⟨List.pairwise_cons.mpr hp, hu⟩
      · rename_i hv
        refine ⟨List.pairwise_cons.mpr ⟨fun c hc => ?_, List.pairwise_cons.mpr hp⟩, fun c hc => ?_⟩
        · rcases List.mem_cons.mp hc with rfl | hc
          · exact hlt
          · exact Nat.lt_trans hlt (hp.1 c hc)
        · rcases List.mem_cons.mp hc with rfl | hc
          · exact hv
          · exact hu c hc
    · split
      · rename_i _ hk
        subst hk
        split
        · exact hm
        · rename_i hv
          exact ⟨List.pairwise_cons.mpr hp, fun c hc => by
            rcases List.mem_cons.mp hc with rfl | hc
            · exact hv
            · exact hu c (by simp [hc])⟩
      · rename_i hlt hne
        obtain ⟨ihp, ihu⟩ := ih hm
        refine ⟨List.pairwise_cons.mpr ⟨fun c hc => ?_, ihp⟩, fun c hc => ?_⟩
        · rcases Memory.mem_write m a v c hc with ⟨rfl, _⟩ | hc
          · show k < a
            omega
          · exact hp.1 c hc
        · rcases List.mem_cons.mp hc with rfl | hc
          · exact hw
          · exact ihu c hc

/-- Two canonical lists that read alike at every address are the same list. -/
theorem Memory.ext_of_read (m n : Memory) (hm : m.wf) (hn : n.wf) (h : ∀ a, m.read a = n.read a) : m = n := by
  induction m generalizing n with
  | nil =>
    cases n with
    | nil => rfl
    | cons y n =>
      obtain ⟨k, v⟩ := y
      have := h k
      simp only [Memory.read, if_pos] at this
      exact absurd this.symm (hn.2 (k, v) (by simp))
  | cons x m ih =>
    obtain ⟨k, v⟩ := x
    have hmp := List.pairwise_cons.mp hm.1
    have hmt : Memory.wf m := ⟨hmp.2, fun c hc => hm.2 c (by simp [hc])⟩
    cases n with
    | nil =>
      have := h k
      simp only [Memory.read, if_pos] at this
      exact absurd this (hm.2 (k, v) (by simp))
    | cons y n =>
      obtain ⟨k', v'⟩ := y
      have hnp := List.pairwise_cons.mp hn.1
      have hnt : Memory.wf n := ⟨hnp.2, fun c hc => hn.2 c (by simp [hc])⟩
      have hk : k = k' := by
        rcases Nat.lt_trichotomy k k' with hlt | heq | hgt
        · have h1 := h k
          have h2 : Memory.read ((k', v') :: n) k = unlisted k := Memory.read_of_lt _ _ fun c hc => by
            rcases List.mem_cons.mp hc with rfl | hc
            · exact hlt
            · exact Nat.lt_trans hlt (hnp.1 c hc)
          simp only [Memory.read, if_pos] at h1
          simp only [Memory.read] at h2
          exact absurd (h1.trans h2) (hm.2 (k, v) (by simp))
        · exact heq
        · have h1 := h k'
          have h2 : Memory.read ((k, v) :: m) k' = unlisted k' := Memory.read_of_lt _ _ fun c hc => by
            rcases List.mem_cons.mp hc with rfl | hc
            · exact hgt
            · exact Nat.lt_trans hgt (hmp.1 c hc)
          simp only [Memory.read, if_pos] at h1
          simp only [Memory.read] at h2
          exact absurd (h1.symm.trans h2) (hn.2 (k', v') (by simp))
      subst hk
      have hv : v = v' := by simpa [Memory.read] using h k
      subst hv
      congr 1
      refine ih n hmt hnt fun a => ?_
      have := h a
      simp only [Memory.read] at this
      split at this
      · rename_i hka
        subst hka
        rw [Memory.read_of_lt m k fun c hc => hmp.1 c hc, Memory.read_of_lt n k fun c hc => hnp.1 c hc]
      · exact this

end Sys2Proof.Machine
end

