-- ==== Sys2Proof/Laws/State.lean ====
section
/-! SUPPORT. One lemma per field per update of State, each true by rfl, so that no proof unfolds a record update. -/

namespace Sys2Proof.Machine

variable (s : State)

/-! `State.withPc` -/

@[simp] theorem State.withPc_a (v : Word) : (s.withPc v).cpu.a = s.cpu.a := rfl
@[simp] theorem State.withPc_f (v : Word) : (s.withPc v).cpu.f = s.cpu.f := rfl
@[simp] theorem State.withPc_b (v : Word) : (s.withPc v).cpu.b = s.cpu.b := rfl
@[simp] theorem State.withPc_c (v : Word) : (s.withPc v).cpu.c = s.cpu.c := rfl
@[simp] theorem State.withPc_d (v : Word) : (s.withPc v).cpu.d = s.cpu.d := rfl
@[simp] theorem State.withPc_e (v : Word) : (s.withPc v).cpu.e = s.cpu.e := rfl
@[simp] theorem State.withPc_h (v : Word) : (s.withPc v).cpu.h = s.cpu.h := rfl
@[simp] theorem State.withPc_l (v : Word) : (s.withPc v).cpu.l = s.cpu.l := rfl
@[simp] theorem State.withPc_sp (v : Word) : (s.withPc v).cpu.sp = s.cpu.sp := rfl
@[simp] theorem State.withPc_pc (v : Word) : (s.withPc v).cpu.pc = v := rfl
@[simp] theorem State.withPc_halted (v : Word) : (s.withPc v).cpu.halted = s.cpu.halted := rfl
@[simp] theorem State.withPc_stopped (v : Word) : (s.withPc v).cpu.stopped = s.cpu.stopped := rfl
@[simp] theorem State.withPc_irq (v : Word) : (s.withPc v).irq = s.irq := rfl
@[simp] theorem State.withPc_timer (v : Word) : (s.withPc v).timer = s.timer := rfl
@[simp] theorem State.withPc_ppu (v : Word) : (s.withPc v).ppu = s.ppu := rfl
@[simp] theorem State.withPc_joypad (v : Word) : (s.withPc v).joypad = s.joypad := rfl
@[simp] theorem State.withPc_dma (v : Word) : (s.withPc v).dma = s.dma := rfl
@[simp] theorem State.withPc_mem (v : Word) : (s.withPc v).mem = s.mem := rfl
@[simp] theorem State.withPc_cart (v : Word) : (s.withPc v).cart = s.cart := rfl
@[simp] theorem State.withPc_inputs (v : Word) : (s.withPc v).inputs = s.inputs := rfl
@[simp] theorem State.withPc_frame (v : Word) : (s.withPc v).frame = s.frame := rfl
@[simp] theorem State.withPc_cycles (v : Word) : (s.withPc v).cycles = s.cycles := rfl

/-! `State.withSp` -/

@[simp] theorem State.withSp_a (v : Word) : (s.withSp v).cpu.a = s.cpu.a := rfl
@[simp] theorem State.withSp_f (v : Word) : (s.withSp v).cpu.f = s.cpu.f := rfl
@[simp] theorem State.withSp_b (v : Word) : (s.withSp v).cpu.b = s.cpu.b := rfl
@[simp] theorem State.withSp_c (v : Word) : (s.withSp v).cpu.c = s.cpu.c := rfl
@[simp] theorem State.withSp_d (v : Word) : (s.withSp v).cpu.d = s.cpu.d := rfl
@[simp] theorem State.withSp_e (v : Word) : (s.withSp v).cpu.e = s.cpu.e := rfl
@[simp] theorem State.withSp_h (v : Word) : (s.withSp v).cpu.h = s.cpu.h := rfl
@[simp] theorem State.withSp_l (v : Word) : (s.withSp v).cpu.l = s.cpu.l := rfl
@[simp] theorem State.withSp_sp (v : Word) : (s.withSp v).cpu.sp = v := rfl
@[simp] theorem State.withSp_pc (v : Word) : (s.withSp v).cpu.pc = s.cpu.pc := rfl
@[simp] theorem State.withSp_halted (v : Word) : (s.withSp v).cpu.halted = s.cpu.halted := rfl
@[simp] theorem State.withSp_stopped (v : Word) : (s.withSp v).cpu.stopped = s.cpu.stopped := rfl
@[simp] theorem State.withSp_irq (v : Word) : (s.withSp v).irq = s.irq := rfl
@[simp] theorem State.withSp_timer (v : Word) : (s.withSp v).timer = s.timer := rfl
@[simp] theorem State.withSp_ppu (v : Word) : (s.withSp v).ppu = s.ppu := rfl
@[simp] theorem State.withSp_joypad (v : Word) : (s.withSp v).joypad = s.joypad := rfl
@[simp] theorem State.withSp_dma (v : Word) : (s.withSp v).dma = s.dma := rfl
@[simp] theorem State.withSp_mem (v : Word) : (s.withSp v).mem = s.mem := rfl
@[simp] theorem State.withSp_cart (v : Word) : (s.withSp v).cart = s.cart := rfl
@[simp] theorem State.withSp_inputs (v : Word) : (s.withSp v).inputs = s.inputs := rfl
@[simp] theorem State.withSp_frame (v : Word) : (s.withSp v).frame = s.frame := rfl
@[simp] theorem State.withSp_cycles (v : Word) : (s.withSp v).cycles = s.cycles := rfl

/-! `State.withA` -/

@[simp] theorem State.withA_a (v : Byte) : (s.withA v).cpu.a = v := rfl
@[simp] theorem State.withA_f (v : Byte) : (s.withA v).cpu.f = s.cpu.f := rfl
@[simp] theorem State.withA_b (v : Byte) : (s.withA v).cpu.b = s.cpu.b := rfl
@[simp] theorem State.withA_c (v : Byte) : (s.withA v).cpu.c = s.cpu.c := rfl
@[simp] theorem State.withA_d (v : Byte) : (s.withA v).cpu.d = s.cpu.d := rfl
@[simp] theorem State.withA_e (v : Byte) : (s.withA v).cpu.e = s.cpu.e := rfl
@[simp] theorem State.withA_h (v : Byte) : (s.withA v).cpu.h = s.cpu.h := rfl
@[simp] theorem State.withA_l (v : Byte) : (s.withA v).cpu.l = s.cpu.l := rfl
@[simp] theorem State.withA_sp (v : Byte) : (s.withA v).cpu.sp = s.cpu.sp := rfl
@[simp] theorem State.withA_pc (v : Byte) : (s.withA v).cpu.pc = s.cpu.pc := rfl
@[simp] theorem State.withA_halted (v : Byte) : (s.withA v).cpu.halted = s.cpu.halted := rfl
@[simp] theorem State.withA_stopped (v : Byte) : (s.withA v).cpu.stopped = s.cpu.stopped := rfl
@[simp] theorem State.withA_irq (v : Byte) : (s.withA v).irq = s.irq := rfl
@[simp] theorem State.withA_timer (v : Byte) : (s.withA v).timer = s.timer := rfl
@[simp] theorem State.withA_ppu (v : Byte) : (s.withA v).ppu = s.ppu := rfl
@[simp] theorem State.withA_joypad (v : Byte) : (s.withA v).joypad = s.joypad := rfl
@[simp] theorem State.withA_dma (v : Byte) : (s.withA v).dma = s.dma := rfl
@[simp] theorem State.withA_mem (v : Byte) : (s.withA v).mem = s.mem := rfl
@[simp] theorem State.withA_cart (v : Byte) : (s.withA v).cart = s.cart := rfl
@[simp] theorem State.withA_inputs (v : Byte) : (s.withA v).inputs = s.inputs := rfl
@[simp] theorem State.withA_frame (v : Byte) : (s.withA v).frame = s.frame := rfl
@[simp] theorem State.withA_cycles (v : Byte) : (s.withA v).cycles = s.cycles := rfl

/-! `State.withBc` -/

@[simp] theorem State.withBc_a (v : Word) : (s.withBc v).cpu.a = s.cpu.a := rfl
@[simp] theorem State.withBc_f (v : Word) : (s.withBc v).cpu.f = s.cpu.f := rfl
@[simp] theorem State.withBc_b (v : Word) : (s.withBc v).cpu.b = hiByte v := rfl
@[simp] theorem State.withBc_c (v : Word) : (s.withBc v).cpu.c = loByte v := rfl
@[simp] theorem State.withBc_d (v : Word) : (s.withBc v).cpu.d = s.cpu.d := rfl
@[simp] theorem State.withBc_e (v : Word) : (s.withBc v).cpu.e = s.cpu.e := rfl
@[simp] theorem State.withBc_h (v : Word) : (s.withBc v).cpu.h = s.cpu.h := rfl
@[simp] theorem State.withBc_l (v : Word) : (s.withBc v).cpu.l = s.cpu.l := rfl
@[simp] theorem State.withBc_sp (v : Word) : (s.withBc v).cpu.sp = s.cpu.sp := rfl
@[simp] theorem State.withBc_pc (v : Word) : (s.withBc v).cpu.pc = s.cpu.pc := rfl
@[simp] theorem State.withBc_halted (v : Word) : (s.withBc v).cpu.halted = s.cpu.halted := rfl
@[simp] theorem State.withBc_stopped (v : Word) : (s.withBc v).cpu.stopped = s.cpu.stopped := rfl
@[simp] theorem State.withBc_irq (v : Word) : (s.withBc v).irq = s.irq := rfl
@[simp] theorem State.withBc_timer (v : Word) : (s.withBc v).timer = s.timer := rfl
@[simp] theorem State.withBc_ppu (v : Word) : (s.withBc v).ppu = s.ppu := rfl
@[simp] theorem State.withBc_joypad (v : Word) : (s.withBc v).joypad = s.joypad := rfl
@[simp] theorem State.withBc_dma (v : Word) : (s.withBc v).dma = s.dma := rfl
@[simp] theorem State.withBc_mem (v : Word) : (s.withBc v).mem = s.mem := rfl
@[simp] theorem State.withBc_cart (v : Word) : (s.withBc v).cart = s.cart := rfl
@[simp] theorem State.withBc_inputs (v : Word) : (s.withBc v).inputs = s.inputs := rfl
@[simp] theorem State.withBc_frame (v : Word) : (s.withBc v).frame = s.frame := rfl
@[simp] theorem State.withBc_cycles (v : Word) : (s.withBc v).cycles = s.cycles := rfl

/-! `State.withDe` -/

@[simp] theorem State.withDe_a (v : Word) : (s.withDe v).cpu.a = s.cpu.a := rfl
@[simp] theorem State.withDe_f (v : Word) : (s.withDe v).cpu.f = s.cpu.f := rfl
@[simp] theorem State.withDe_b (v : Word) : (s.withDe v).cpu.b = s.cpu.b := rfl
@[simp] theorem State.withDe_c (v : Word) : (s.withDe v).cpu.c = s.cpu.c := rfl
@[simp] theorem State.withDe_d (v : Word) : (s.withDe v).cpu.d = hiByte v := rfl
@[simp] theorem State.withDe_e (v : Word) : (s.withDe v).cpu.e = loByte v := rfl
@[simp] theorem State.withDe_h (v : Word) : (s.withDe v).cpu.h = s.cpu.h := rfl
@[simp] theorem State.withDe_l (v : Word) : (s.withDe v).cpu.l = s.cpu.l := rfl
@[simp] theorem State.withDe_sp (v : Word) : (s.withDe v).cpu.sp = s.cpu.sp := rfl
@[simp] theorem State.withDe_pc (v : Word) : (s.withDe v).cpu.pc = s.cpu.pc := rfl
@[simp] theorem State.withDe_halted (v : Word) : (s.withDe v).cpu.halted = s.cpu.halted := rfl
@[simp] theorem State.withDe_stopped (v : Word) : (s.withDe v).cpu.stopped = s.cpu.stopped := rfl
@[simp] theorem State.withDe_irq (v : Word) : (s.withDe v).irq = s.irq := rfl
@[simp] theorem State.withDe_timer (v : Word) : (s.withDe v).timer = s.timer := rfl
@[simp] theorem State.withDe_ppu (v : Word) : (s.withDe v).ppu = s.ppu := rfl
@[simp] theorem State.withDe_joypad (v : Word) : (s.withDe v).joypad = s.joypad := rfl
@[simp] theorem State.withDe_dma (v : Word) : (s.withDe v).dma = s.dma := rfl
@[simp] theorem State.withDe_mem (v : Word) : (s.withDe v).mem = s.mem := rfl
@[simp] theorem State.withDe_cart (v : Word) : (s.withDe v).cart = s.cart := rfl
@[simp] theorem State.withDe_inputs (v : Word) : (s.withDe v).inputs = s.inputs := rfl
@[simp] theorem State.withDe_frame (v : Word) : (s.withDe v).frame = s.frame := rfl
@[simp] theorem State.withDe_cycles (v : Word) : (s.withDe v).cycles = s.cycles := rfl

/-! `State.withHl` -/

@[simp] theorem State.withHl_a (v : Word) : (s.withHl v).cpu.a = s.cpu.a := rfl
@[simp] theorem State.withHl_f (v : Word) : (s.withHl v).cpu.f = s.cpu.f := rfl
@[simp] theorem State.withHl_b (v : Word) : (s.withHl v).cpu.b = s.cpu.b := rfl
@[simp] theorem State.withHl_c (v : Word) : (s.withHl v).cpu.c = s.cpu.c := rfl
@[simp] theorem State.withHl_d (v : Word) : (s.withHl v).cpu.d = s.cpu.d := rfl
@[simp] theorem State.withHl_e (v : Word) : (s.withHl v).cpu.e = s.cpu.e := rfl
@[simp] theorem State.withHl_h (v : Word) : (s.withHl v).cpu.h = hiByte v := rfl
@[simp] theorem State.withHl_l (v : Word) : (s.withHl v).cpu.l = loByte v := rfl
@[simp] theorem State.withHl_sp (v : Word) : (s.withHl v).cpu.sp = s.cpu.sp := rfl
@[simp] theorem State.withHl_pc (v : Word) : (s.withHl v).cpu.pc = s.cpu.pc := rfl
@[simp] theorem State.withHl_halted (v : Word) : (s.withHl v).cpu.halted = s.cpu.halted := rfl
@[simp] theorem State.withHl_stopped (v : Word) : (s.withHl v).cpu.stopped = s.cpu.stopped := rfl
@[simp] theorem State.withHl_irq (v : Word) : (s.withHl v).irq = s.irq := rfl
@[simp] theorem State.withHl_timer (v : Word) : (s.withHl v).timer = s.timer := rfl
@[simp] theorem State.withHl_ppu (v : Word) : (s.withHl v).ppu = s.ppu := rfl
@[simp] theorem State.withHl_joypad (v : Word) : (s.withHl v).joypad = s.joypad := rfl
@[simp] theorem State.withHl_dma (v : Word) : (s.withHl v).dma = s.dma := rfl
@[simp] theorem State.withHl_mem (v : Word) : (s.withHl v).mem = s.mem := rfl
@[simp] theorem State.withHl_cart (v : Word) : (s.withHl v).cart = s.cart := rfl
@[simp] theorem State.withHl_inputs (v : Word) : (s.withHl v).inputs = s.inputs := rfl
@[simp] theorem State.withHl_frame (v : Word) : (s.withHl v).frame = s.frame := rfl
@[simp] theorem State.withHl_cycles (v : Word) : (s.withHl v).cycles = s.cycles := rfl

/-! `State.withAf` -/

@[simp] theorem State.withAf_a (v : Word) : (s.withAf v).cpu.a = hiByte v := rfl
@[simp] theorem State.withAf_f (v : Word) : (s.withAf v).cpu.f = loByte v &&& 0xF0 := rfl
@[simp] theorem State.withAf_b (v : Word) : (s.withAf v).cpu.b = s.cpu.b := rfl
@[simp] theorem State.withAf_c (v : Word) : (s.withAf v).cpu.c = s.cpu.c := rfl
@[simp] theorem State.withAf_d (v : Word) : (s.withAf v).cpu.d = s.cpu.d := rfl
@[simp] theorem State.withAf_e (v : Word) : (s.withAf v).cpu.e = s.cpu.e := rfl
@[simp] theorem State.withAf_h (v : Word) : (s.withAf v).cpu.h = s.cpu.h := rfl
@[simp] theorem State.withAf_l (v : Word) : (s.withAf v).cpu.l = s.cpu.l := rfl
@[simp] theorem State.withAf_sp (v : Word) : (s.withAf v).cpu.sp = s.cpu.sp := rfl
@[simp] theorem State.withAf_pc (v : Word) : (s.withAf v).cpu.pc = s.cpu.pc := rfl
@[simp] theorem State.withAf_halted (v : Word) : (s.withAf v).cpu.halted = s.cpu.halted := rfl
@[simp] theorem State.withAf_stopped (v : Word) : (s.withAf v).cpu.stopped = s.cpu.stopped := rfl
@[simp] theorem State.withAf_irq (v : Word) : (s.withAf v).irq = s.irq := rfl
@[simp] theorem State.withAf_timer (v : Word) : (s.withAf v).timer = s.timer := rfl
@[simp] theorem State.withAf_ppu (v : Word) : (s.withAf v).ppu = s.ppu := rfl
@[simp] theorem State.withAf_joypad (v : Word) : (s.withAf v).joypad = s.joypad := rfl
@[simp] theorem State.withAf_dma (v : Word) : (s.withAf v).dma = s.dma := rfl
@[simp] theorem State.withAf_mem (v : Word) : (s.withAf v).mem = s.mem := rfl
@[simp] theorem State.withAf_cart (v : Word) : (s.withAf v).cart = s.cart := rfl
@[simp] theorem State.withAf_inputs (v : Word) : (s.withAf v).inputs = s.inputs := rfl
@[simp] theorem State.withAf_frame (v : Word) : (s.withAf v).frame = s.frame := rfl
@[simp] theorem State.withAf_cycles (v : Word) : (s.withAf v).cycles = s.cycles := rfl

/-! `State.withFlags` -/

@[simp] theorem State.withFlags_a (x : FlagBits) : (s.withFlags x).cpu.a = s.cpu.a := rfl
@[simp] theorem State.withFlags_f (x : FlagBits) : (s.withFlags x).cpu.f = x.pack := rfl
@[simp] theorem State.withFlags_b (x : FlagBits) : (s.withFlags x).cpu.b = s.cpu.b := rfl
@[simp] theorem State.withFlags_c (x : FlagBits) : (s.withFlags x).cpu.c = s.cpu.c := rfl
@[simp] theorem State.withFlags_d (x : FlagBits) : (s.withFlags x).cpu.d = s.cpu.d := rfl
@[simp] theorem State.withFlags_e (x : FlagBits) : (s.withFlags x).cpu.e = s.cpu.e := rfl
@[simp] theorem State.withFlags_h (x : FlagBits) : (s.withFlags x).cpu.h = s.cpu.h := rfl
@[simp] theorem State.withFlags_l (x : FlagBits) : (s.withFlags x).cpu.l = s.cpu.l := rfl
@[simp] theorem State.withFlags_sp (x : FlagBits) : (s.withFlags x).cpu.sp = s.cpu.sp := rfl
@[simp] theorem State.withFlags_pc (x : FlagBits) : (s.withFlags x).cpu.pc = s.cpu.pc := rfl
@[simp] theorem State.withFlags_halted (x : FlagBits) : (s.withFlags x).cpu.halted = s.cpu.halted := rfl
@[simp] theorem State.withFlags_stopped (x : FlagBits) : (s.withFlags x).cpu.stopped = s.cpu.stopped := rfl
@[simp] theorem State.withFlags_irq (x : FlagBits) : (s.withFlags x).irq = s.irq := rfl
@[simp] theorem State.withFlags_timer (x : FlagBits) : (s.withFlags x).timer = s.timer := rfl
@[simp] theorem State.withFlags_ppu (x : FlagBits) : (s.withFlags x).ppu = s.ppu := rfl
@[simp] theorem State.withFlags_joypad (x : FlagBits) : (s.withFlags x).joypad = s.joypad := rfl
@[simp] theorem State.withFlags_dma (x : FlagBits) : (s.withFlags x).dma = s.dma := rfl
@[simp] theorem State.withFlags_mem (x : FlagBits) : (s.withFlags x).mem = s.mem := rfl
@[simp] theorem State.withFlags_cart (x : FlagBits) : (s.withFlags x).cart = s.cart := rfl
@[simp] theorem State.withFlags_inputs (x : FlagBits) : (s.withFlags x).inputs = s.inputs := rfl
@[simp] theorem State.withFlags_frame (x : FlagBits) : (s.withFlags x).frame = s.frame := rfl
@[simp] theorem State.withFlags_cycles (x : FlagBits) : (s.withFlags x).cycles = s.cycles := rfl

/-! `State.took` -/

@[simp] theorem State.took_cpu (n : Nat) : (s.took n).cpu = s.cpu := rfl
@[simp] theorem State.took_irq (n : Nat) : (s.took n).irq = s.irq := rfl
@[simp] theorem State.took_timer (n : Nat) : (s.took n).timer = s.timer := rfl
@[simp] theorem State.took_ppu (n : Nat) : (s.took n).ppu = s.ppu := rfl
@[simp] theorem State.took_joypad (n : Nat) : (s.took n).joypad = s.joypad := rfl
@[simp] theorem State.took_dma (n : Nat) : (s.took n).dma = s.dma := rfl
@[simp] theorem State.took_mem (n : Nat) : (s.took n).mem = s.mem := rfl
@[simp] theorem State.took_cart (n : Nat) : (s.took n).cart = s.cart := rfl
@[simp] theorem State.took_inputs (n : Nat) : (s.took n).inputs = s.inputs := rfl
@[simp] theorem State.took_frame (n : Nat) : (s.took n).frame = s.frame := rfl
@[simp] theorem State.took_cycles (n : Nat) : (s.took n).cycles = n := rfl

/-! `State.request` -/

@[simp] theorem State.request_cpu (k : IrqKind) : (s.request k).cpu = s.cpu := rfl
@[simp] theorem State.request_timer (k : IrqKind) : (s.request k).timer = s.timer := rfl
@[simp] theorem State.request_ppu (k : IrqKind) : (s.request k).ppu = s.ppu := rfl
@[simp] theorem State.request_joypad (k : IrqKind) : (s.request k).joypad = s.joypad := rfl
@[simp] theorem State.request_dma (k : IrqKind) : (s.request k).dma = s.dma := rfl
@[simp] theorem State.request_mem (k : IrqKind) : (s.request k).mem = s.mem := rfl
@[simp] theorem State.request_cart (k : IrqKind) : (s.request k).cart = s.cart := rfl
@[simp] theorem State.request_inputs (k : IrqKind) : (s.request k).inputs = s.inputs := rfl
@[simp] theorem State.request_frame (k : IrqKind) : (s.request k).frame = s.frame := rfl
@[simp] theorem State.request_cycles (k : IrqKind) : (s.request k).cycles = s.cycles := rfl
@[simp] theorem State.request_ie (k : IrqKind) : (s.request k).irq.ie = s.irq.ie := rfl
@[simp] theorem State.request_ime (k : IrqKind) : (s.request k).irq.ime = s.irq.ime := rfl
@[simp] theorem State.request_imePending (k : IrqKind) : (s.request k).irq.imePending = s.irq.imePending := rfl
@[simp] theorem State.request_ifl (k : IrqKind) : (s.request k).irq.ifl = s.irq.ifl ||| (1 : BitVec 5) <<< k.number := rfl

/-! `State.acknowledge` -/

@[simp] theorem State.acknowledge_cpu (k : IrqKind) : (s.acknowledge k).cpu = s.cpu := rfl
@[simp] theorem State.acknowledge_timer (k : IrqKind) : (s.acknowledge k).timer = s.timer := rfl
@[simp] theorem State.acknowledge_ppu (k : IrqKind) : (s.acknowledge k).ppu = s.ppu := rfl
@[simp] theorem State.acknowledge_joypad (k : IrqKind) : (s.acknowledge k).joypad = s.joypad := rfl
@[simp] theorem State.acknowledge_dma (k : IrqKind) : (s.acknowledge k).dma = s.dma := rfl
@[simp] theorem State.acknowledge_mem (k : IrqKind) : (s.acknowledge k).mem = s.mem := rfl
@[simp] theorem State.acknowledge_cart (k : IrqKind) : (s.acknowledge k).cart = s.cart := rfl
@[simp] theorem State.acknowledge_inputs (k : IrqKind) : (s.acknowledge k).inputs = s.inputs := rfl
@[simp] theorem State.acknowledge_frame (k : IrqKind) : (s.acknowledge k).frame = s.frame := rfl
@[simp] theorem State.acknowledge_cycles (k : IrqKind) : (s.acknowledge k).cycles = s.cycles := rfl
@[simp] theorem State.acknowledge_ie (k : IrqKind) : (s.acknowledge k).irq.ie = s.irq.ie := rfl
@[simp] theorem State.acknowledge_ime (k : IrqKind) : (s.acknowledge k).irq.ime = s.irq.ime := rfl
@[simp] theorem State.acknowledge_imePending (k : IrqKind) : (s.acknowledge k).irq.imePending = s.irq.imePending := rfl
@[simp] theorem State.acknowledge_ifl (k : IrqKind) : (s.acknowledge k).irq.ifl = s.irq.ifl &&& ~~~((1 : BitVec 5) <<< k.number) := rfl

/-! `State.requestIf` -/

@[simp] theorem State.requestIf_cpu (b : Bool) (k : IrqKind) : (s.requestIf b k).cpu = s.cpu := by cases b <;> rfl
@[simp] theorem State.requestIf_timer (b : Bool) (k : IrqKind) : (s.requestIf b k).timer = s.timer := by cases b <;> rfl
@[simp] theorem State.requestIf_ppu (b : Bool) (k : IrqKind) : (s.requestIf b k).ppu = s.ppu := by cases b <;> rfl
@[simp] theorem State.requestIf_joypad (b : Bool) (k : IrqKind) : (s.requestIf b k).joypad = s.joypad := by cases b <;> rfl
@[simp] theorem State.requestIf_dma (b : Bool) (k : IrqKind) : (s.requestIf b k).dma = s.dma := by cases b <;> rfl
@[simp] theorem State.requestIf_mem (b : Bool) (k : IrqKind) : (s.requestIf b k).mem = s.mem := by cases b <;> rfl
@[simp] theorem State.requestIf_cart (b : Bool) (k : IrqKind) : (s.requestIf b k).cart = s.cart := by cases b <;> rfl
@[simp] theorem State.requestIf_inputs (b : Bool) (k : IrqKind) : (s.requestIf b k).inputs = s.inputs := by cases b <;> rfl
@[simp] theorem State.requestIf_frame (b : Bool) (k : IrqKind) : (s.requestIf b k).frame = s.frame := by cases b <;> rfl
@[simp] theorem State.requestIf_cycles (b : Bool) (k : IrqKind) : (s.requestIf b k).cycles = s.cycles := by cases b <;> rfl
@[simp] theorem State.requestIf_ie (b : Bool) (k : IrqKind) : (s.requestIf b k).irq.ie = s.irq.ie := by cases b <;> rfl
@[simp] theorem State.requestIf_ime (b : Bool) (k : IrqKind) : (s.requestIf b k).irq.ime = s.irq.ime := by cases b <;> rfl
@[simp] theorem State.requestIf_imePending (b : Bool) (k : IrqKind) : (s.requestIf b k).irq.imePending = s.irq.imePending := by cases b <;> rfl
@[simp] theorem State.requestIf_true (k : IrqKind) : s.requestIf true k = s.request k := rfl
@[simp] theorem State.requestIf_false (k : IrqKind) : s.requestIf false k = s := rfl

/-! `writeR8` of a register -/

@[simp] theorem writeR8_b_a (v : Byte) : (writeR8 s .b v).cpu.a = s.cpu.a := rfl
@[simp] theorem writeR8_b_f (v : Byte) : (writeR8 s .b v).cpu.f = s.cpu.f := rfl
@[simp] theorem writeR8_b_b (v : Byte) : (writeR8 s .b v).cpu.b = v := rfl
@[simp] theorem writeR8_b_c (v : Byte) : (writeR8 s .b v).cpu.c = s.cpu.c := rfl
@[simp] theorem writeR8_b_d (v : Byte) : (writeR8 s .b v).cpu.d = s.cpu.d := rfl
@[simp] theorem writeR8_b_e (v : Byte) : (writeR8 s .b v).cpu.e = s.cpu.e := rfl
@[simp] theorem writeR8_b_h (v : Byte) : (writeR8 s .b v).cpu.h = s.cpu.h := rfl
@[simp] theorem writeR8_b_l (v : Byte) : (writeR8 s .b v).cpu.l = s.cpu.l := rfl
@[simp] theorem writeR8_b_sp (v : Byte) : (writeR8 s .b v).cpu.sp = s.cpu.sp := rfl
@[simp] theorem writeR8_b_pc (v : Byte) : (writeR8 s .b v).cpu.pc = s.cpu.pc := rfl
@[simp] theorem writeR8_b_halted (v : Byte) : (writeR8 s .b v).cpu.halted = s.cpu.halted := rfl
@[simp] theorem writeR8_b_stopped (v : Byte) : (writeR8 s .b v).cpu.stopped = s.cpu.stopped := rfl
@[simp] theorem writeR8_b_irq (v : Byte) : (writeR8 s .b v).irq = s.irq := rfl
@[simp] theorem writeR8_b_timer (v : Byte) : (writeR8 s .b v).timer = s.timer := rfl
@[simp] theorem writeR8_b_ppu (v : Byte) : (writeR8 s .b v).ppu = s.ppu := rfl
@[simp] theorem writeR8_b_joypad (v : Byte) : (writeR8 s .b v).joypad = s.joypad := rfl
@[simp] theorem writeR8_b_dma (v : Byte) : (writeR8 s .b v).dma = s.dma := rfl
@[simp] theorem writeR8_b_mem (v : Byte) : (writeR8 s .b v).mem = s.mem := rfl
@[simp] theorem writeR8_b_cart (v : Byte) : (writeR8 s .b v).cart = s.cart := rfl
@[simp] theorem writeR8_b_inputs (v : Byte) : (writeR8 s .b v).inputs = s.inputs := rfl
@[simp] theorem writeR8_b_frame (v : Byte) : (writeR8 s .b v).frame = s.frame := rfl
@[simp] theorem writeR8_b_cycles (v : Byte) : (writeR8 s .b v).cycles = s.cycles := rfl
@[simp] theorem writeR8_c_a (v : Byte) : (writeR8 s .c v).cpu.a = s.cpu.a := rfl
@[simp] theorem writeR8_c_f (v : Byte) : (writeR8 s .c v).cpu.f = s.cpu.f := rfl
@[simp] theorem writeR8_c_b (v : Byte) : (writeR8 s .c v).cpu.b = s.cpu.b := rfl
@[simp] theorem writeR8_c_c (v : Byte) : (writeR8 s .c v).cpu.c = v := rfl
@[simp] theorem writeR8_c_d (v : Byte) : (writeR8 s .c v).cpu.d = s.cpu.d := rfl
@[simp] theorem writeR8_c_e (v : Byte) : (writeR8 s .c v).cpu.e = s.cpu.e := rfl
@[simp] theorem writeR8_c_h (v : Byte) : (writeR8 s .c v).cpu.h = s.cpu.h := rfl
@[simp] theorem writeR8_c_l (v : Byte) : (writeR8 s .c v).cpu.l = s.cpu.l := rfl
@[simp] theorem writeR8_c_sp (v : Byte) : (writeR8 s .c v).cpu.sp = s.cpu.sp := rfl
@[simp] theorem writeR8_c_pc (v : Byte) : (writeR8 s .c v).cpu.pc = s.cpu.pc := rfl
@[simp] theorem writeR8_c_halted (v : Byte) : (writeR8 s .c v).cpu.halted = s.cpu.halted := rfl
@[simp] theorem writeR8_c_stopped (v : Byte) : (writeR8 s .c v).cpu.stopped = s.cpu.stopped := rfl
@[simp] theorem writeR8_c_irq (v : Byte) : (writeR8 s .c v).irq = s.irq := rfl
@[simp] theorem writeR8_c_timer (v : Byte) : (writeR8 s .c v).timer = s.timer := rfl
@[simp] theorem writeR8_c_ppu (v : Byte) : (writeR8 s .c v).ppu = s.ppu := rfl
@[simp] theorem writeR8_c_joypad (v : Byte) : (writeR8 s .c v).joypad = s.joypad := rfl
@[simp] theorem writeR8_c_dma (v : Byte) : (writeR8 s .c v).dma = s.dma := rfl
@[simp] theorem writeR8_c_mem (v : Byte) : (writeR8 s .c v).mem = s.mem := rfl
@[simp] theorem writeR8_c_cart (v : Byte) : (writeR8 s .c v).cart = s.cart := rfl
@[simp] theorem writeR8_c_inputs (v : Byte) : (writeR8 s .c v).inputs = s.inputs := rfl
@[simp] theorem writeR8_c_frame (v : Byte) : (writeR8 s .c v).frame = s.frame := rfl
@[simp] theorem writeR8_c_cycles (v : Byte) : (writeR8 s .c v).cycles = s.cycles := rfl
@[simp] theorem writeR8_d_a (v : Byte) : (writeR8 s .d v).cpu.a = s.cpu.a := rfl
@[simp] theorem writeR8_d_f (v : Byte) : (writeR8 s .d v).cpu.f = s.cpu.f := rfl
@[simp] theorem writeR8_d_b (v : Byte) : (writeR8 s .d v).cpu.b = s.cpu.b := rfl
@[simp] theorem writeR8_d_c (v : Byte) : (writeR8 s .d v).cpu.c = s.cpu.c := rfl
@[simp] theorem writeR8_d_d (v : Byte) : (writeR8 s .d v).cpu.d = v := rfl
@[simp] theorem writeR8_d_e (v : Byte) : (writeR8 s .d v).cpu.e = s.cpu.e := rfl
@[simp] theorem writeR8_d_h (v : Byte) : (writeR8 s .d v).cpu.h = s.cpu.h := rfl
@[simp] theorem writeR8_d_l (v : Byte) : (writeR8 s .d v).cpu.l = s.cpu.l := rfl
@[simp] theorem writeR8_d_sp (v : Byte) : (writeR8 s .d v).cpu.sp = s.cpu.sp := rfl
@[simp] theorem writeR8_d_pc (v : Byte) : (writeR8 s .d v).cpu.pc = s.cpu.pc := rfl
@[simp] theorem writeR8_d_halted (v : Byte) : (writeR8 s .d v).cpu.halted = s.cpu.halted := rfl
@[simp] theorem writeR8_d_stopped (v : Byte) : (writeR8 s .d v).cpu.stopped = s.cpu.stopped := rfl
@[simp] theorem writeR8_d_irq (v : Byte) : (writeR8 s .d v).irq = s.irq := rfl
@[simp] theorem writeR8_d_timer (v : Byte) : (writeR8 s .d v).timer = s.timer := rfl
@[simp] theorem writeR8_d_ppu (v : Byte) : (writeR8 s .d v).ppu = s.ppu := rfl
@[simp] theorem writeR8_d_joypad (v : Byte) : (writeR8 s .d v).joypad = s.joypad := rfl
@[simp] theorem writeR8_d_dma (v : Byte) : (writeR8 s .d v).dma = s.dma := rfl
@[simp] theorem writeR8_d_mem (v : Byte) : (writeR8 s .d v).mem = s.mem := rfl
@[simp] theorem writeR8_d_cart (v : Byte) : (writeR8 s .d v).cart = s.cart := rfl
@[simp] theorem writeR8_d_inputs (v : Byte) : (writeR8 s .d v).inputs = s.inputs := rfl
@[simp] theorem writeR8_d_frame (v : Byte) : (writeR8 s .d v).frame = s.frame := rfl
@[simp] theorem writeR8_d_cycles (v : Byte) : (writeR8 s .d v).cycles = s.cycles := rfl
@[simp] theorem writeR8_e_a (v : Byte) : (writeR8 s .e v).cpu.a = s.cpu.a := rfl
@[simp] theorem writeR8_e_f (v : Byte) : (writeR8 s .e v).cpu.f = s.cpu.f := rfl
@[simp] theorem writeR8_e_b (v : Byte) : (writeR8 s .e v).cpu.b = s.cpu.b := rfl
@[simp] theorem writeR8_e_c (v : Byte) : (writeR8 s .e v).cpu.c = s.cpu.c := rfl
@[simp] theorem writeR8_e_d (v : Byte) : (writeR8 s .e v).cpu.d = s.cpu.d := rfl
@[simp] theorem writeR8_e_e (v : Byte) : (writeR8 s .e v).cpu.e = v := rfl
@[simp] theorem writeR8_e_h (v : Byte) : (writeR8 s .e v).cpu.h = s.cpu.h := rfl
@[simp] theorem writeR8_e_l (v : Byte) : (writeR8 s .e v).cpu.l = s.cpu.l := rfl
@[simp] theorem writeR8_e_sp (v : Byte) : (writeR8 s .e v).cpu.sp = s.cpu.sp := rfl
@[simp] theorem writeR8_e_pc (v : Byte) : (writeR8 s .e v).cpu.pc = s.cpu.pc := rfl
@[simp] theorem writeR8_e_halted (v : Byte) : (writeR8 s .e v).cpu.halted = s.cpu.halted := rfl
@[simp] theorem writeR8_e_stopped (v : Byte) : (writeR8 s .e v).cpu.stopped = s.cpu.stopped := rfl
@[simp] theorem writeR8_e_irq (v : Byte) : (writeR8 s .e v).irq = s.irq := rfl
@[simp] theorem writeR8_e_timer (v : Byte) : (writeR8 s .e v).timer = s.timer := rfl
@[simp] theorem writeR8_e_ppu (v : Byte) : (writeR8 s .e v).ppu = s.ppu := rfl
@[simp] theorem writeR8_e_joypad (v : Byte) : (writeR8 s .e v).joypad = s.joypad := rfl
@[simp] theorem writeR8_e_dma (v : Byte) : (writeR8 s .e v).dma = s.dma := rfl
@[simp] theorem writeR8_e_mem (v : Byte) : (writeR8 s .e v).mem = s.mem := rfl
@[simp] theorem writeR8_e_cart (v : Byte) : (writeR8 s .e v).cart = s.cart := rfl
@[simp] theorem writeR8_e_inputs (v : Byte) : (writeR8 s .e v).inputs = s.inputs := rfl
@[simp] theorem writeR8_e_frame (v : Byte) : (writeR8 s .e v).frame = s.frame := rfl
@[simp] theorem writeR8_e_cycles (v : Byte) : (writeR8 s .e v).cycles = s.cycles := rfl
@[simp] theorem writeR8_h_a (v : Byte) : (writeR8 s .h v).cpu.a = s.cpu.a := rfl
@[simp] theorem writeR8_h_f (v : Byte) : (writeR8 s .h v).cpu.f = s.cpu.f := rfl
@[simp] theorem writeR8_h_b (v : Byte) : (writeR8 s .h v).cpu.b = s.cpu.b := rfl
@[simp] theorem writeR8_h_c (v : Byte) : (writeR8 s .h v).cpu.c = s.cpu.c := rfl
@[simp] theorem writeR8_h_d (v : Byte) : (writeR8 s .h v).cpu.d = s.cpu.d := rfl
@[simp] theorem writeR8_h_e (v : Byte) : (writeR8 s .h v).cpu.e = s.cpu.e := rfl
@[simp] theorem writeR8_h_h (v : Byte) : (writeR8 s .h v).cpu.h = v := rfl
@[simp] theorem writeR8_h_l (v : Byte) : (writeR8 s .h v).cpu.l = s.cpu.l := rfl
@[simp] theorem writeR8_h_sp (v : Byte) : (writeR8 s .h v).cpu.sp = s.cpu.sp := rfl
@[simp] theorem writeR8_h_pc (v : Byte) : (writeR8 s .h v).cpu.pc = s.cpu.pc := rfl
@[simp] theorem writeR8_h_halted (v : Byte) : (writeR8 s .h v).cpu.halted = s.cpu.halted := rfl
@[simp] theorem writeR8_h_stopped (v : Byte) : (writeR8 s .h v).cpu.stopped = s.cpu.stopped := rfl
@[simp] theorem writeR8_h_irq (v : Byte) : (writeR8 s .h v).irq = s.irq := rfl
@[simp] theorem writeR8_h_timer (v : Byte) : (writeR8 s .h v).timer = s.timer := rfl
@[simp] theorem writeR8_h_ppu (v : Byte) : (writeR8 s .h v).ppu = s.ppu := rfl
@[simp] theorem writeR8_h_joypad (v : Byte) : (writeR8 s .h v).joypad = s.joypad := rfl
@[simp] theorem writeR8_h_dma (v : Byte) : (writeR8 s .h v).dma = s.dma := rfl
@[simp] theorem writeR8_h_mem (v : Byte) : (writeR8 s .h v).mem = s.mem := rfl
@[simp] theorem writeR8_h_cart (v : Byte) : (writeR8 s .h v).cart = s.cart := rfl
@[simp] theorem writeR8_h_inputs (v : Byte) : (writeR8 s .h v).inputs = s.inputs := rfl
@[simp] theorem writeR8_h_frame (v : Byte) : (writeR8 s .h v).frame = s.frame := rfl
@[simp] theorem writeR8_h_cycles (v : Byte) : (writeR8 s .h v).cycles = s.cycles := rfl
@[simp] theorem writeR8_l_a (v : Byte) : (writeR8 s .l v).cpu.a = s.cpu.a := rfl
@[simp] theorem writeR8_l_f (v : Byte) : (writeR8 s .l v).cpu.f = s.cpu.f := rfl
@[simp] theorem writeR8_l_b (v : Byte) : (writeR8 s .l v).cpu.b = s.cpu.b := rfl
@[simp] theorem writeR8_l_c (v : Byte) : (writeR8 s .l v).cpu.c = s.cpu.c := rfl
@[simp] theorem writeR8_l_d (v : Byte) : (writeR8 s .l v).cpu.d = s.cpu.d := rfl
@[simp] theorem writeR8_l_e (v : Byte) : (writeR8 s .l v).cpu.e = s.cpu.e := rfl
@[simp] theorem writeR8_l_h (v : Byte) : (writeR8 s .l v).cpu.h = s.cpu.h := rfl
@[simp] theorem writeR8_l_l (v : Byte) : (writeR8 s .l v).cpu.l = v := rfl
@[simp] theorem writeR8_l_sp (v : Byte) : (writeR8 s .l v).cpu.sp = s.cpu.sp := rfl
@[simp] theorem writeR8_l_pc (v : Byte) : (writeR8 s .l v).cpu.pc = s.cpu.pc := rfl
@[simp] theorem writeR8_l_halted (v : Byte) : (writeR8 s .l v).cpu.halted = s.cpu.halted := rfl
@[simp] theorem writeR8_l_stopped (v : Byte) : (writeR8 s .l v).cpu.stopped = s.cpu.stopped := rfl
@[simp] theorem writeR8_l_irq (v : Byte) : (writeR8 s .l v).irq = s.irq := rfl
@[simp] theorem writeR8_l_timer (v : Byte) : (writeR8 s .l v).timer = s.timer := rfl
@[simp] theorem writeR8_l_ppu (v : Byte) : (writeR8 s .l v).ppu = s.ppu := rfl
@[simp] theorem writeR8_l_joypad (v : Byte) : (writeR8 s .l v).joypad = s.joypad := rfl
@[simp] theorem writeR8_l_dma (v : Byte) : (writeR8 s .l v).dma = s.dma := rfl
@[simp] theorem writeR8_l_mem (v : Byte) : (writeR8 s .l v).mem = s.mem := rfl
@[simp] theorem writeR8_l_cart (v : Byte) : (writeR8 s .l v).cart = s.cart := rfl
@[simp] theorem writeR8_l_inputs (v : Byte) : (writeR8 s .l v).inputs = s.inputs := rfl
@[simp] theorem writeR8_l_frame (v : Byte) : (writeR8 s .l v).frame = s.frame := rfl
@[simp] theorem writeR8_l_cycles (v : Byte) : (writeR8 s .l v).cycles = s.cycles := rfl
@[simp] theorem writeR8_a_a (v : Byte) : (writeR8 s .a v).cpu.a = v := rfl
@[simp] theorem writeR8_a_f (v : Byte) : (writeR8 s .a v).cpu.f = s.cpu.f := rfl
@[simp] theorem writeR8_a_b (v : Byte) : (writeR8 s .a v).cpu.b = s.cpu.b := rfl
@[simp] theorem writeR8_a_c (v : Byte) : (writeR8 s .a v).cpu.c = s.cpu.c := rfl
@[simp] theorem writeR8_a_d (v : Byte) : (writeR8 s .a v).cpu.d = s.cpu.d := rfl
@[simp] theorem writeR8_a_e (v : Byte) : (writeR8 s .a v).cpu.e = s.cpu.e := rfl
@[simp] theorem writeR8_a_h (v : Byte) : (writeR8 s .a v).cpu.h = s.cpu.h := rfl
@[simp] theorem writeR8_a_l (v : Byte) : (writeR8 s .a v).cpu.l = s.cpu.l := rfl
@[simp] theorem writeR8_a_sp (v : Byte) : (writeR8 s .a v).cpu.sp = s.cpu.sp := rfl
@[simp] theorem writeR8_a_pc (v : Byte) : (writeR8 s .a v).cpu.pc = s.cpu.pc := rfl
@[simp] theorem writeR8_a_halted (v : Byte) : (writeR8 s .a v).cpu.halted = s.cpu.halted := rfl
@[simp] theorem writeR8_a_stopped (v : Byte) : (writeR8 s .a v).cpu.stopped = s.cpu.stopped := rfl
@[simp] theorem writeR8_a_irq (v : Byte) : (writeR8 s .a v).irq = s.irq := rfl
@[simp] theorem writeR8_a_timer (v : Byte) : (writeR8 s .a v).timer = s.timer := rfl
@[simp] theorem writeR8_a_ppu (v : Byte) : (writeR8 s .a v).ppu = s.ppu := rfl
@[simp] theorem writeR8_a_joypad (v : Byte) : (writeR8 s .a v).joypad = s.joypad := rfl
@[simp] theorem writeR8_a_dma (v : Byte) : (writeR8 s .a v).dma = s.dma := rfl
@[simp] theorem writeR8_a_mem (v : Byte) : (writeR8 s .a v).mem = s.mem := rfl
@[simp] theorem writeR8_a_cart (v : Byte) : (writeR8 s .a v).cart = s.cart := rfl
@[simp] theorem writeR8_a_inputs (v : Byte) : (writeR8 s .a v).inputs = s.inputs := rfl
@[simp] theorem writeR8_a_frame (v : Byte) : (writeR8 s .a v).frame = s.frame := rfl
@[simp] theorem writeR8_a_cycles (v : Byte) : (writeR8 s .a v).cycles = s.cycles := rfl

end Sys2Proof.Machine
end

