-- ==== Sys2Proof/Laws/Bus.lean ====
section
/-! SUPPORT. What the bus can do: the parts of State no access touches, the owners of addresses, and a store read back. -/

namespace Sys2Proof.Machine

/-! The owner of an address. -/

/-- An I/O address that the plain array holds is stored at its own address. -/
theorem ioOwner_store {a k : Nat} (h : ioOwner a = .store k) : k = a := by
  unfold ioOwner at h
  split at h <;> simp_all

/-- A plain storage address is stored at itself or, in the mirror, 0x2000 below. -/
theorem owner_store_key {a : Word} {k : Nat} (h : owner a = .store k) :
    (0xE000 ≤ a.toNat ∧ a.toNat < 0xFE00 ∧ k = a.toNat - 0x2000) ∨
      ((a.toNat < 0xE000 ∨ 0xFE00 ≤ a.toNat) ∧ k = a.toNat) := by
  simp only [owner] at h
  split at h
  · simp at h
  split at h
  · simp at h; omega
  split at h
  · simp at h
  split at h
  · simp at h; omega
  split at h
  · simp at h; omega
  split at h
  · simp at h; omega
  split at h
  · simp at h
  split at h
  · have := ioOwner_store h; omega
  split at h
  · simp at h; omega
  · simp at h

/-- An address of the mirror of work RAM. -/
theorem owner_mirror {a : Word} (h1 : 0xE000 ≤ a.toNat) (h2 : a.toNat < 0xFE00) : owner a = .store (a.toNat - 0x2000) := by
  unfold owner
  simp only
  rw [if_neg (by omega), if_neg (by omega), if_neg (by omega), if_neg (by omega), if_pos (by omega)]

/-- The address a byte is stored at is its own storage address. -/
theorem owner_of_key {a : Word} {k : Nat} (h : owner a = .store k) : owner (BitVec.ofNat 16 k) = .store k ∧ k < 0x10000 := by
  have hlt := a.isLt
  rcases owner_store_key h with ⟨h1, h2, hk⟩ | ⟨_, hk⟩
  · refine ⟨?_, by omega⟩
    have hb : (BitVec.ofNat 16 k).toNat = k := by rw [BitVec.toNat_ofNat, Nat.mod_eq_of_lt (by omega)]
    unfold owner
    simp only [hb]
    rw [if_neg (by omega), if_neg (by omega), if_neg (by omega), if_pos (by omega)]
  · have hb : BitVec.ofNat 16 k = a := by rw [hk, BitVec.ofNat_toNat, BitVec.setWidth_eq]
    exact ⟨by rw [hb, h], by omega⟩

/-- The 160 bytes of OAM are plain storage. -/
theorem owner_oam {i : Nat} (h : i < 160) : owner (BitVec.ofNat 16 (0xFE00 + i)) = .store (0xFE00 + i) := by
  have hk : (BitVec.ofNat 16 (0xFE00 + i)).toNat = 0xFE00 + i := by rw [BitVec.toNat_ofNat]; omega
  unfold owner
  simp only [hk]
  rw [if_neg (by omega), if_neg (by omega), if_neg (by omega), if_neg (by omega), if_neg (by omega), if_pos (by omega)]

/-- The one address of a device register (20_memory R70); the other owners have ranges. -/
def Owner.deviceAddr : Owner → Option Word
  | .p1 => some 0xFF00
  | .div => some 0xFF04
  | .tima => some 0xFF05
  | .tma => some 0xFF06
  | .tac => some 0xFF07
  | .ifl => some 0xFF0F
  | .lcdc => some 0xFF40
  | .stat => some 0xFF41
  | .scy => some 0xFF42
  | .scx => some 0xFF43
  | .ly => some 0xFF44
  | .lyc => some 0xFF45
  | .dma => some 0xFF46
  | .bgp => some 0xFF47
  | .obp0 => some 0xFF48
  | .obp1 => some 0xFF49
  | .wy => some 0xFF4A
  | .wx => some 0xFF4B
  | .ie => some 0xFFFF
  | .cartRom | .cartRam | .store _ | .unusable => none

/-- A device register in the I/O block stands at its own address alone. -/
theorem ioOwner_device {n : Nat} {w : Word} (h : (ioOwner n).deviceAddr = some w) : n = w.toNat := by
  unfold ioOwner at h
  split at h <;> simp only [Owner.deviceAddr, Option.some.injEq, reduceCtorEq] at h <;> subst h <;> rfl

/-- A device register stands at its own address alone. -/
theorem owner_device {a w : Word} (h : (owner a).deviceAddr = some w) : a = w := by
  have hlt := a.isLt
  apply BitVec.eq_of_toNat_eq
  simp only [owner] at h
  split at h
  · simp [Owner.deviceAddr] at h
  split at h
  · simp [Owner.deviceAddr] at h
  split at h
  · simp [Owner.deviceAddr] at h
  split at h
  · simp [Owner.deviceAddr] at h
  split at h
  · simp [Owner.deviceAddr] at h
  split at h
  · simp [Owner.deviceAddr] at h
  split at h
  · simp [Owner.deviceAddr] at h
  split at h
  · exact ioOwner_device h
  split at h
  · simp [Owner.deviceAddr] at h
  · simp only [Owner.deviceAddr, Option.some.injEq] at h
    subst h
    show a.toNat = 0xFFFF
    omega

/-- The ranges of the owners that are no device register. -/
theorem owner_range (a : Word) :
    (owner a = .cartRom ↔ a.toNat < 0x8000) ∧ (owner a = .cartRam ↔ 0xA000 ≤ a.toNat ∧ a.toNat < 0xC000) ∧
      (owner a = .unusable ↔ 0xFEA0 ≤ a.toNat ∧ a.toNat < 0xFF00) := by
  have h : ∀ n, ioOwner n ≠ .cartRom ∧ ioOwner n ≠ .cartRam ∧ ioOwner n ≠ .unusable := by
    intro n
    unfold ioOwner
    split <;> simp
  simp only [owner]
  split
  · simp; omega
  split
  · simp; omega
  split
  · simp; omega
  split
  · simp; omega
  split
  · simp; omega
  split
  · simp; omega
  split
  · simp; omega
  split
  · simp [h]; omega
  split
  · simp; omega
  · simp; omega

/-! What a read depends on. -/

/-- A read looks at the devices, the memory and the ROM alone. -/
theorem busRead_congr {s t : State} (a : Word) (h1 : t.irq = s.irq) (h2 : t.timer = s.timer) (h3 : t.ppu = s.ppu)
    (h4 : t.joypad = s.joypad) (h5 : t.dma = s.dma) (h6 : t.mem = s.mem) (h7 : t.cart = s.cart) : busRead t a = busRead s a := by
  unfold busRead
  rw [h1, h2, h3, h4, h5, h6, h7]

@[simp] theorem busRead_cpu (s : State) (c : Cpu) (a : Word) : busRead { s with cpu := c } a = busRead s a := rfl
@[simp] theorem busRead_withPc (s : State) (v a : Word) : busRead (s.withPc v) a = busRead s a := rfl
@[simp] theorem busRead_withSp (s : State) (v a : Word) : busRead (s.withSp v) a = busRead s a := rfl
@[simp] theorem busRead_withA (s : State) (v : Byte) (a : Word) : busRead (s.withA v) a = busRead s a := rfl
@[simp] theorem busRead_withBc (s : State) (v a : Word) : busRead (s.withBc v) a = busRead s a := rfl
@[simp] theorem busRead_withDe (s : State) (v a : Word) : busRead (s.withDe v) a = busRead s a := rfl
@[simp] theorem busRead_withHl (s : State) (v a : Word) : busRead (s.withHl v) a = busRead s a := rfl
@[simp] theorem busRead_withAf (s : State) (v a : Word) : busRead (s.withAf v) a = busRead s a := rfl
@[simp] theorem busRead_withFlags (s : State) (x : FlagBits) (a : Word) : busRead (s.withFlags x) a = busRead s a := rfl
@[simp] theorem busRead_took (s : State) (n : Nat) (a : Word) : busRead (s.took n) a = busRead s a := rfl
@[simp] theorem busRead_skipBytes (s : State) (n : Nat) (a : Word) : busRead (skipBytes s n) a = busRead s a := rfl

/-! The OAM copy changes the memory alone. -/

/-- What the last `n` bytes of the OAM copy leave: `s` with some memory. -/
theorem oamCopyLast_eq (page : Byte) (n : Nat) (s : State) : ∃ m, oamCopyLast page n s = { s with mem := m } := by
  induction n generalizing s with
  | zero => exact ⟨s.mem, rfl⟩
  | succ n ih =>
    obtain ⟨m, hm⟩ := ih { s with
      mem := s.mem.write (0xFE00 + (160 - (n + 1))) (busRead s (BitVec.ofNat 16 (page.toNat * 256 + (160 - (n + 1))))) }
    exact ⟨m, by simp only [oamCopyLast]; rw [hm]⟩

/-- What the DMA trigger leaves: DMA written, and some memory. -/
theorem oamDma_eq (s : State) (v : Byte) : ∃ m, oamDma s v = { s with dma := v, mem := m } := by
  obtain ⟨m, hm⟩ := oamCopyLast_eq v 160 { s with dma := v }
  exact ⟨m, by rw [oamDma, hm]⟩

/-- What the DMA trigger leaves, its memory named by itself. -/
theorem oamDma_mem (s : State) (v : Byte) : oamDma s v = { s with dma := v, mem := (oamDma s v).mem } := by
  obtain ⟨m, hm⟩ := oamDma_eq s v
  rw [hm]

/-- The OAM copy leaves every byte of the memory outside its part of OAM. -/
theorem oamCopyLast_read (page : Byte) (n : Nat) (hn : n ≤ 160) (s : State) (hm : s.mem.wf) (a : Nat)
    (ha : a < 0xFE00 + (160 - n) ∨ 0xFEA0 ≤ a) : (oamCopyLast page n s).mem.read a = s.mem.read a := by
  induction n generalizing s with
  | zero => rfl
  | succ n ih =>
    unfold oamCopyLast
    rw [ih (by omega) _ (Memory.write_wf _ hm _ _) (by omega)]
    dsimp only
    rw [Memory.read_write _ hm, if_neg (by omega)]

/-- The DMA trigger leaves every byte of the memory outside OAM. -/
theorem oamDma_read (s : State) (v : Byte) (hm : s.mem.wf) (a : Nat) (ha : a < 0xFE00 ∨ 0xFEA0 ≤ a) :
    (oamDma s v).mem.read a = s.mem.read a := by
  unfold oamDma
  generalize hn : 160 = n
  exact oamCopyLast_read v n (by omega) { s with dma := v } hm a (by omega)

/-! What a write leaves alone. -/

/-- Everything a write can change: the devices' registers, the DMA register and the memory. -/
theorem busWrite_eq (s : State) (a : Word) (v : Byte) :
    ∃ ie ifl timer ppu sel dma mem, busWrite s a v =
      { s with irq := { s.irq with ie := ie, ifl := ifl }, timer := timer, ppu := ppu
               joypad := { s.joypad with p1Select := sel }, dma := dma, mem := mem } := by
  unfold busWrite
  split
  case h_17 =>
    obtain ⟨m, hm⟩ := oamDma_eq s v
    exact ⟨s.irq.ie, s.irq.ifl, s.timer, s.ppu, s.joypad.p1Select, v, m, by rw [hm]⟩
  all_goals exact ⟨_, _, _, _, _, _, _, rfl⟩

@[simp] theorem busWrite_cpu (s : State) (a : Word) (v : Byte) : (busWrite s a v).cpu = s.cpu := by
  obtain ⟨_, _, _, _, _, _, _, h⟩ := busWrite_eq s a v; rw [h]
@[simp] theorem busWrite_ime (s : State) (a : Word) (v : Byte) : (busWrite s a v).irq.ime = s.irq.ime := by
  obtain ⟨_, _, _, _, _, _, _, h⟩ := busWrite_eq s a v; rw [h]
@[simp] theorem busWrite_imePending (s : State) (a : Word) (v : Byte) :
    (busWrite s a v).irq.imePending = s.irq.imePending := by
  obtain ⟨_, _, _, _, _, _, _, h⟩ := busWrite_eq s a v; rw [h]
@[simp] theorem busWrite_buttons (s : State) (a : Word) (v : Byte) : (busWrite s a v).joypad.buttons = s.joypad.buttons := by
  obtain ⟨_, _, _, _, _, _, _, h⟩ := busWrite_eq s a v; rw [h]
@[simp] theorem busWrite_cart (s : State) (a : Word) (v : Byte) : (busWrite s a v).cart = s.cart := by
  obtain ⟨_, _, _, _, _, _, _, h⟩ := busWrite_eq s a v; rw [h]
@[simp] theorem busWrite_inputs (s : State) (a : Word) (v : Byte) : (busWrite s a v).inputs = s.inputs := by
  obtain ⟨_, _, _, _, _, _, _, h⟩ := busWrite_eq s a v; rw [h]
@[simp] theorem busWrite_cycles (s : State) (a : Word) (v : Byte) : (busWrite s a v).cycles = s.cycles := by
  obtain ⟨_, _, _, _, _, _, _, h⟩ := busWrite_eq s a v; rw [h]
@[simp] theorem busWrite_frame (s : State) (a : Word) (v : Byte) : (busWrite s a v).frame = s.frame := by
  obtain ⟨_, _, _, _, _, _, _, h⟩ := busWrite_eq s a v; rw [h]

/-- The OAM copy does not look at the registers of the CPU or at `cycles`. -/
theorem oamCopyLast_cpu (page : Byte) (n : Nat) (s : State) (c : Cpu) (k : Nat) :
    oamCopyLast page n { s with cpu := c, cycles := k } = { oamCopyLast page n s with cpu := c, cycles := k } := by
  induction n generalizing s with
  | zero => rfl
  | succ n ih =>
    simp only [oamCopyLast]
    exact ih { s with
      mem := s.mem.write (0xFE00 + (160 - (n + 1))) (busRead s (BitVec.ofNat 16 (page.toNat * 256 + (160 - (n + 1))))) }

/-- A write does not look at the registers of the CPU or at `cycles`. -/
theorem busWrite_of_cpu (s : State) (c : Cpu) (k : Nat) (a : Word) (v : Byte) :
    busWrite { s with cpu := c, cycles := k } a v = { busWrite s a v with cpu := c, cycles := k } := by
  unfold busWrite
  split
  case h_17 => exact oamCopyLast_cpu v 160 { s with dma := v } c k
  all_goals rfl

/-! Plain storage reads back. -/

/-- A store to plain storage is the memory's write. -/
theorem busWrite_store {s : State} {a : Word} {k : Nat} (h : owner a = .store k) (v : Byte) :
    busWrite s a v = { s with mem := s.mem.write k v } := by
  simp only [busWrite, h]

/-- A read of plain storage is the memory's read. -/
theorem busRead_store {s : State} {a : Word} {k : Nat} (h : owner a = .store k) : busRead s a = s.mem.read k := by
  simp only [busRead, h]

/-- Plain storage reads back what was stored. -/
theorem busRead_busWrite_store {s : State} (hm : s.mem.wf) {a : Word} {k : Nat} (h : owner a = .store k) (v : Byte) :
    busRead (busWrite s a v) a = v := by
  rw [busRead_store h, busWrite_store h]
  simp [Memory.read_write _ hm]

/-- Every write keeps the memory's canonical form. -/
theorem oamCopyLast_wf (page : Byte) (n : Nat) (s : State) (h : s.mem.wf) : (oamCopyLast page n s).mem.wf := by
  induction n generalizing s with
  | zero => exact h
  | succ n ih => exact ih _ (Memory.write_wf _ h _ _)

/-- Every write of the bus keeps the memory's canonical form. -/
theorem busWrite_wf (s : State) (h : s.mem.wf) (a : Word) (v : Byte) : (busWrite s a v).mem.wf := by
  unfold busWrite
  split
  case h_17 => exact oamCopyLast_wf _ _ _ h
  all_goals first | exact h | exact Memory.write_wf _ h _ _

/-- Every byte the OAM copy lists is backed by storage, if those of before are. -/
theorem oamCopyLast_backed (page : Byte) (n : Nat) (hn : n ≤ 160) (s : State)
    (h : ∀ c ∈ s.mem, owner (BitVec.ofNat 16 c.1) = .store c.1 ∧ c.1 < 0x10000) :
    ∀ c ∈ (oamCopyLast page n s).mem, owner (BitVec.ofNat 16 c.1) = .store c.1 ∧ c.1 < 0x10000 := by
  induction n generalizing s with
  | zero => exact h
  | succ n ih =>
    refine ih (by omega) _ fun c hc => ?_
    rcases Memory.mem_write _ _ _ _ hc with ⟨rfl, _⟩ | hc
    · exact ⟨owner_oam (by omega), by show 0xFE00 + (160 - (n + 1)) < 0x10000; omega⟩
    · exact h c hc

/-- Every byte the memory lists after a write is backed by storage, if those of before are. -/
theorem busWrite_backed (s : State) (h : ∀ c ∈ s.mem, owner (BitVec.ofNat 16 c.1) = .store c.1 ∧ c.1 < 0x10000) (a : Word)
    (v : Byte) : ∀ c ∈ (busWrite s a v).mem, owner (BitVec.ofNat 16 c.1) = .store c.1 ∧ c.1 < 0x10000 := by
  unfold busWrite
  split
  case h_3 k hk =>
    intro c hc
    rcases Memory.mem_write _ _ _ _ hc with ⟨rfl, _⟩ | hc
    · exact owner_of_key hk
    · exact h c hc
  case h_17 => exact oamCopyLast_backed v 160 (by omega) _ h
  all_goals exact h

/-! The stack. -/

/-- `push16` is two byte writes, the high byte first, at the two addresses below SP. -/
theorem push16_eq (s : State) (v : Word) :
    push16 s v = (busWrite (busWrite s (s.cpu.sp - 1) (hiByte v)) (s.cpu.sp - 1 - 1) (loByte v)).withSp (s.cpu.sp - 1 - 1) := by
  unfold push16
  simp only [State.withSp_sp, busWrite_cpu]
  have h1 : busWrite (s.withSp (s.cpu.sp - 1)) (s.cpu.sp - 1) (hiByte v) =
      (busWrite s (s.cpu.sp - 1) (hiByte v)).withSp (s.cpu.sp - 1) := by
    have := busWrite_of_cpu s { s.cpu with sp := s.cpu.sp - 1 } s.cycles (s.cpu.sp - 1) (hiByte v)
    simpa [State.withSp] using this
  rw [h1]
  have h2 := busWrite_of_cpu (busWrite s (s.cpu.sp - 1) (hiByte v)) { s.cpu with sp := s.cpu.sp - 1 - 1 } s.cycles
    (s.cpu.sp - 1 - 1) (loByte v)
  simpa [State.withSp] using h2

@[simp] theorem push16_sp (s : State) (v : Word) : (push16 s v).cpu.sp = s.cpu.sp - 1 - 1 := by rw [push16_eq]; rfl
@[simp] theorem push16_cart (s : State) (v : Word) : (push16 s v).cart = s.cart := by rw [push16_eq]; simp
@[simp] theorem push16_inputs (s : State) (v : Word) : (push16 s v).inputs = s.inputs := by rw [push16_eq]; simp
@[simp] theorem push16_ime (s : State) (v : Word) : (push16 s v).irq.ime = s.irq.ime := by rw [push16_eq]; simp
@[simp] theorem push16_imePending (s : State) (v : Word) : (push16 s v).irq.imePending = s.irq.imePending := by
  rw [push16_eq]; simp

/-- `push16` changes no register but SP. -/
theorem push16_cpu (s : State) (v : Word) : (push16 s v).cpu = { s.cpu with sp := s.cpu.sp - 1 - 1 } := by
  rw [push16_eq]
  simp [State.withSp]

end Sys2Proof.Machine
end

