-- ==== Sys2Proof/Laws/Decode.lean ====
section
/-! SUPPORT. Bytes and words taken apart and put together, and what the decoder answers by the length of the instruction. -/

namespace Sys2Proof.Machine

/-- A word is its two halves. -/
@[simp] theorem joinBytes_halves (w : Word) : joinBytes (hiByte w) (loByte w) = w := by
  apply BitVec.eq_of_toNat_eq
  have := w.isLt
  simp only [joinBytes, hiByte, loByte, BitVec.toNat_append, BitVec.extractLsb'_toNat]
  rw [← Nat.shiftLeft_add_eq_or_of_lt (by omega), Nat.shiftLeft_eq, Nat.shiftRight_eq_div_pow]
  omega

/-- The high half of two bytes joined. -/
@[simp] theorem hiByte_joinBytes (h l : Byte) : hiByte (joinBytes h l) = h := by
  apply BitVec.eq_of_toNat_eq
  have := h.isLt
  have := l.isLt
  simp only [joinBytes, hiByte, BitVec.toNat_append, BitVec.extractLsb'_toNat]
  rw [← Nat.shiftLeft_add_eq_or_of_lt (by omega), Nat.shiftLeft_eq, Nat.shiftRight_eq_div_pow]
  omega

/-- The low half of two bytes joined. -/
@[simp] theorem loByte_joinBytes (h l : Byte) : loByte (joinBytes h l) = l := by
  apply BitVec.eq_of_toNat_eq
  have := h.isLt
  have := l.isLt
  simp only [joinBytes, loByte, BitVec.toNat_append, BitVec.extractLsb'_toNat]
  rw [← Nat.shiftLeft_add_eq_or_of_lt (by omega), Nat.shiftLeft_eq, Nat.shiftRight_eq_div_pow]
  omega

/-- Two bytes joined are `256 * h + l`. -/
theorem joinBytes_toNat (h l : Byte) : (joinBytes h l).toNat = 256 * h.toNat + l.toNat := by
  have := l.isLt
  simp only [joinBytes, BitVec.toNat_append]
  rw [← Nat.shiftLeft_add_eq_or_of_lt (by omega), Nat.shiftLeft_eq]
  omega

end Sys2Proof.Machine

namespace Sys2Proof

/-- What the decoder answers where the opcode calls for one byte. -/
theorem decode_one {b0 : Byte} (rest : List Byte) (h : instrLength b0 = 1) :
    decode (b0 :: rest) = .ok (decodeBytes b0 (rest.getD 0 0) (rest.getD 1 0), rest) := by
  simp [decode, h]

/-- What the decoder answers where the opcode calls for two bytes. -/
theorem decode_two {b0 : Byte} (b1 : Byte) (rest : List Byte) (h : instrLength b0 = 2) :
    decode (b0 :: b1 :: rest) = .ok (decodeBytes b0 b1 (rest.getD 0 0), rest) := by
  simp [decode, h]

/-- What the decoder answers where the opcode calls for three bytes. -/
theorem decode_three {b0 : Byte} (b1 b2 : Byte) (rest : List Byte) (h : instrLength b0 = 3) :
    decode (b0 :: b1 :: b2 :: rest) = .ok (decodeBytes b0 b1 b2, rest) := by
  simp [decode, h]

/-- Three bytes always decode, and the instruction is that of the total decoder. -/
theorem decode_of_three (b0 b1 b2 : Byte) (h : instrLength b0 ≤ 3) :
    ∃ rest, decode [b0, b1, b2] = .ok (decodeBytes b0 b1 b2, rest) := by
  refine ⟨[b0, b1, b2].drop (instrLength b0), ?_⟩
  simp only [decode]
  rw [if_neg (by simp; omega)]
  rfl

end Sys2Proof
end

