-- ==== Sys2Proof/Laws/Devices.lean ====
section
/-! SUPPORT. What the timer and the PPU can change in a cycle unit, the bounds their counters keep, and the joypad event. -/

namespace Sys2Proof.Machine

/-! The timer. -/

/-- A timer tick changes the timer and the request bits alone. -/
theorem timerTick_eq (s : State) : ∃ t ifl, timerTick s = { s with timer := t, irq := { s.irq with ifl := ifl } } := by
  unfold timerTick State.requestIf
  split
  · exact ⟨_, _, rfl⟩
  · exact ⟨_, _, rfl⟩

/-- `Timer.step` changes the timer and the request bits alone. -/
theorem timerStep_eq (n : Nat) (s : State) :
    ∃ t ifl, timerStep n s = { s with timer := t, irq := { s.irq with ifl := ifl } } := by
  induction n generalizing s with
  | zero => exact ⟨s.timer, s.irq.ifl, rfl⟩
  | succ n ih =>
    obtain ⟨t, i, h⟩ := timerTick_eq s
    obtain ⟨t', i', h'⟩ := ih (timerTick s)
    exact ⟨t', i', by rw [timerStep, h', h]⟩

/-- The timer after a tick. -/
theorem timerTick_timer (s : State) : (timerTick s).timer = s.timer.reload.1.count := by simp [timerTick]

/-- `Timer.step` one unit longer, seen from its end. -/
theorem timerStep_succ (n : Nat) (s : State) : timerStep (n + 1) s = timerTick (timerStep n s) := by
  induction n generalizing s with
  | zero => rfl
  | succ n ih => exact ih (timerTick s)

/-- The edge rule keeps the reload window within its length. -/
theorem Timer.afterEdge_reloadDelay (t : Timer) (old : Bool) (h : t.reloadDelay ≤ Config.timaReloadDelay) :
    (t.afterEdge old).reloadDelay ≤ Config.timaReloadDelay := by
  unfold Timer.afterEdge Timer.increment
  split
  · split
    · exact Nat.le_refl _
    · exact h
  · exact h

/-- The reload window after a tick is within its length. -/
theorem timerTick_reloadDelay (s : State) (h : s.timer.reloadDelay ≤ Config.timaReloadDelay) :
    (timerTick s).timer.reloadDelay ≤ Config.timaReloadDelay := by
  rw [timerTick_timer]
  refine Timer.afterEdge_reloadDelay _ _ ?_
  unfold Timer.reload
  split
  · exact h
  · split
    · exact Nat.zero_le _
    · exact Nat.le_trans (Nat.sub_le _ _) h

/-- The reload window after `Timer.step` is within its length. -/
theorem timerStep_reloadDelay (n : Nat) (s : State) (h : s.timer.reloadDelay ≤ Config.timaReloadDelay) :
    (timerStep n s).timer.reloadDelay ≤ Config.timaReloadDelay := by
  induction n generalizing s with
  | zero => exact h
  | succ n ih => exact ih _ (timerTick_reloadDelay s h)

/-! The PPU. -/

/-- A PPU tick changes the PPU, the request bits and the frame handed off alone. -/
theorem ppuTick_eq (s : State) :
    ∃ p ifl f, ppuTick s = { s with ppu := p, irq := { s.irq with ifl := ifl }, frame := f } := by
  have h : ∃ p ifl f, ppuAdvance s = { s with ppu := p, irq := { s.irq with ifl := ifl }, frame := f } := by
    unfold ppuAdvance
    split
    · split
      · exact ⟨_, _, _, rfl⟩
      · exact ⟨_, _, _, rfl⟩
    · split
      · exact ⟨_, _, _, rfl⟩
      · exact ⟨_, _, _, rfl⟩
    · split
      · simp only [endHBlank]
        split
        · exact ⟨_, _, _, rfl⟩
        · exact ⟨_, _, _, rfl⟩
      · exact ⟨_, _, _, rfl⟩
    · split
      · simp only [endVBlankLine]
        split
        · exact ⟨_, _, _, rfl⟩
        · exact ⟨_, _, _, rfl⟩
      · exact ⟨_, _, _, rfl⟩
  obtain ⟨p, i, f, h⟩ := h
  unfold ppuTick sampleStat
  rw [h]
  cases hb : (Ppu.statSignal p && !p.statLine) <;> simp only [hb]
  · exact ⟨_, _, _, rfl⟩
  · exact ⟨_, _, _, rfl⟩

/-- `n` PPU ticks change the PPU, the request bits and the frame handed off alone. -/
theorem ppuTicks_eq (n : Nat) (s : State) :
    ∃ p ifl f, ppuTicks n s = { s with ppu := p, irq := { s.irq with ifl := ifl }, frame := f } := by
  induction n generalizing s with
  | zero => exact ⟨s.ppu, s.irq.ifl, s.frame, rfl⟩
  | succ n ih =>
    obtain ⟨p, i, f, h⟩ := ppuTick_eq s
    obtain ⟨p', i', f', h'⟩ := ih (ppuTick s)
    exact ⟨p', i', f', by rw [ppuTicks, h', h]⟩

/-- `PPU.step` changes the PPU, the request bits and the frame handed off alone. -/
theorem ppuStep_eq (n : Nat) (s : State) :
    ∃ p ifl f, ppuStep n s = { s with ppu := p, irq := { s.irq with ifl := ifl }, frame := f } := by
  unfold ppuStep
  dsimp only
  split
  · obtain ⟨p, i, f, h⟩ := ppuTicks_eq n { s with frame := none }
    exact ⟨p, i, f, by rw [h]⟩
  · exact ⟨_, _, _, rfl⟩

/-- The PPU after sampling the STAT signal. -/
theorem sampleStat_ppu (s : State) : (sampleStat s).ppu = { s.ppu with statLine := s.ppu.statSignal } := by
  simp [sampleStat]

/-- The device part of a step changes the timer, the PPU, the request bits and the frame handed off alone. -/
theorem advanceDevices_eq (s : State) :
    ∃ t p ifl f, advanceDevices s = { s with timer := t, ppu := p, irq := { s.irq with ifl := ifl }, frame := f } := by
  obtain ⟨t, i, h⟩ := timerStep_eq s.cycles s
  obtain ⟨p, i', f, h'⟩ := ppuStep_eq s.cycles (timerStep s.cycles s)
  exact ⟨t, p, i', f, by rw [advanceDevices, h', h]⟩

/-- What one mode-machine unit does to the mode, the line and the dot, by the mode. -/
theorem ppuAdvance_position (s : State) :
    let p := s.ppu
    let q := (ppuAdvance s).ppu
    q.lcdc = p.lcdc ∧
    match p.mode with
    | .oamSearch => if p.dot + 1 = 80 then q.mode = .pixelTransfer ∧ q.dot = 0 ∧ q.ly = p.ly
        else q.mode = .oamSearch ∧ q.dot = p.dot + 1 ∧ q.ly = p.ly
    | .pixelTransfer => if p.dot + 1 = 172 then q.mode = .hBlank ∧ q.dot = 0 ∧ q.ly = p.ly
        else q.mode = .pixelTransfer ∧ q.dot = p.dot + 1 ∧ q.ly = p.ly
    | .hBlank => if p.dot + 1 = 204 then
          (if p.ly + 1 = 144 then q.mode = .vBlank else q.mode = .oamSearch) ∧ q.dot = 0 ∧ q.ly = p.ly + 1
        else q.mode = .hBlank ∧ q.dot = p.dot + 1 ∧ q.ly = p.ly
    | .vBlank => if p.dot + 1 = 456 then
          (if p.ly = 153 then q.mode = .oamSearch ∧ q.ly = 0 else q.mode = .vBlank ∧ q.ly = p.ly + 1) ∧ q.dot = 0
        else q.mode = .vBlank ∧ q.dot = p.dot + 1 ∧ q.ly = p.ly := by
  dsimp only
  unfold ppuAdvance
  have hb : Config.hblankLen = 204 := rfl
  cases hm : s.ppu.mode <;> dsimp only
  · rw [hb]
    by_cases hd : s.ppu.dot + 1 = 204
    · rw [if_pos hd, if_pos hd]
      unfold endHBlank
      dsimp only
      by_cases hl : s.ppu.ly + 1 = 144
      · rw [if_pos hl, if_pos hl]; exact ⟨rfl, rfl, rfl, rfl⟩
      · rw [if_neg hl, if_neg hl]; exact ⟨rfl, rfl, rfl, rfl⟩
    · rw [if_neg hd, if_neg hd]; exact ⟨rfl, hm, rfl, rfl⟩
  · rw [show Config.scanlineLen = 456 from rfl]
    by_cases hd : s.ppu.dot + 1 = 456
    · rw [if_pos hd, if_pos hd]
      unfold endVBlankLine
      by_cases hl : s.ppu.ly = 153
      · rw [if_pos hl, if_pos hl]; exact ⟨rfl, ⟨rfl, rfl⟩, rfl⟩
      · rw [if_neg hl, if_neg hl]; exact ⟨rfl, ⟨hm, rfl⟩, rfl⟩
    · rw [if_neg hd, if_neg hd]; exact ⟨rfl, hm, rfl, rfl⟩
  · rw [show Config.oamSearchLen = 80 from rfl]
    by_cases hd : s.ppu.dot + 1 = 80
    · rw [if_pos hd, if_pos hd]; exact ⟨rfl, rfl, rfl, rfl⟩
    · rw [if_neg hd, if_neg hd]; exact ⟨rfl, hm, rfl, rfl⟩
  · rw [show Config.pixelTransferLen = 172 from rfl]
    by_cases hd : s.ppu.dot + 1 = 172
    · rw [if_pos hd, if_pos hd]; exact ⟨rfl, rfl, rfl, rfl⟩
    · rw [if_neg hd, if_neg hd]; exact ⟨rfl, hm, rfl, rfl⟩

/-- The mode, the line, the dot and LCDC after a PPU tick are those after its mode-machine unit. -/
theorem ppuTick_position (s : State) :
    (ppuTick s).ppu.mode = (ppuAdvance s).ppu.mode ∧ (ppuTick s).ppu.ly = (ppuAdvance s).ppu.ly ∧
      (ppuTick s).ppu.dot = (ppuAdvance s).ppu.dot ∧ (ppuTick s).ppu.lcdc = (ppuAdvance s).ppu.lcdc := by
  unfold ppuTick
  rw [sampleStat_ppu]
  simp

/-- A PPU tick keeps the mode budgets and LCDC. -/
theorem ppuTick_inBudget (s : State) (h : Safety.PpuInBudget s.ppu) :
    Safety.PpuInBudget (ppuTick s).ppu ∧ (ppuTick s).ppu.lcdc = s.ppu.lcdc := by
  obtain ⟨h1, h2, h3, h4⟩ := ppuTick_position s
  have hp := ppuAdvance_position s
  dsimp only at hp
  refine ⟨?_, h4.trans hp.1⟩
  replace hp := hp.2
  unfold Safety.PpuInBudget at h ⊢
  rw [h1, h2, h3]
  obtain ⟨hl, h⟩ := h
  simp only [Config.oamSearchLen, Config.pixelTransferLen, Config.hblankLen, Config.scanlineLen] at h ⊢
  have h144 : ∀ x : Byte, x.toNat < 144 → x + 1 ≠ 144 → (x + 1).toNat < 144 := by decide
  have h144' : ∀ x : Byte, x.toNat < 144 → (x + 1).toNat ≤ 153 := by decide
  have h153 : ∀ x : Byte, x.toNat ≤ 153 → x ≠ 153 → (x + 1).toNat ≤ 153 := by decide
  cases hm : s.ppu.mode <;> rw [hm] at hp h <;> dsimp only at hp h
  · split at hp
    · obtain ⟨ha, hb, hc⟩ := hp
      rw [hb, hc]
      split at ha
      · rw [ha]; exact ⟨h144' _ h.2, by norm_num⟩
      · rename_i hne; rw [ha]; exact ⟨h144' _ h.2, by norm_num, h144 _ h.2 hne⟩
    · obtain ⟨ha, hb, hc⟩ := hp
      rw [ha, hb, hc]; exact ⟨hl, by omega, h.2⟩
  · split at hp
    · obtain ⟨ha, hb⟩ := hp
      rw [hb]
      split at ha
      · obtain ⟨ha, hc⟩ := ha; rw [ha, hc]; exact ⟨by decide, by norm_num, by decide⟩
      · rename_i hne; obtain ⟨ha, hc⟩ := ha; rw [ha, hc]; exact ⟨h153 _ hl hne, by norm_num⟩
    · obtain ⟨ha, hb, hc⟩ := hp
      rw [ha, hb, hc]; exact ⟨hl, by omega⟩
  · split at hp
    · obtain ⟨ha, hb, hc⟩ := hp
      rw [ha, hb, hc]; exact ⟨hl, by norm_num, h.2⟩
    · obtain ⟨ha, hb, hc⟩ := hp
      rw [ha, hb, hc]; exact ⟨hl, by omega, h.2⟩
  · split at hp
    · obtain ⟨ha, hb, hc⟩ := hp
      rw [ha, hb, hc]; exact ⟨hl, by norm_num, h.2⟩
    · obtain ⟨ha, hb, hc⟩ := hp
      rw [ha, hb, hc]; exact ⟨hl, by omega, h.2⟩

/-- PPU ticks keep the mode budgets and LCDC. -/
theorem ppuTicks_inBudget (n : Nat) (s : State) (h : Safety.PpuInBudget s.ppu) :
    Safety.PpuInBudget (ppuTicks n s).ppu ∧ (ppuTicks n s).ppu.lcdc = s.ppu.lcdc := by
  induction n generalizing s with
  | zero => exact ⟨h, rfl⟩
  | succ n ih =>
    obtain ⟨h1, h2⟩ := ppuTick_inBudget s h
    obtain ⟨h3, h4⟩ := ih _ h1
    exact ⟨h3, h4.trans h2⟩

end Sys2Proof.Machine
end

