-- ==== Sys2Proof/Laws/Flags.lean ====
section
/-! SUPPORT. F read back after the four flags are packed into it, and the addresses and offsets of the operand forms as sums. -/

namespace Sys2Proof.Machine

@[simp] theorem FlagBits.pack_z (x : FlagBits) : x.pack[7] = x.z := by
  obtain ⟨z, n, h, c⟩ := x
  cases z <;> cases n <;> cases h <;> cases c <;> rfl
theorem FlagBits.pack_getLsbD_z (x : FlagBits) : x.pack.getLsbD 7 = x.z := x.pack_z
@[simp] theorem FlagBits.pack_n (x : FlagBits) : x.pack[6] = x.n := by
  obtain ⟨z, n, h, c⟩ := x
  cases z <;> cases n <;> cases h <;> cases c <;> rfl
theorem FlagBits.pack_getLsbD_n (x : FlagBits) : x.pack.getLsbD 6 = x.n := x.pack_n
@[simp] theorem FlagBits.pack_h (x : FlagBits) : x.pack[5] = x.h := by
  obtain ⟨z, n, h, c⟩ := x
  cases z <;> cases n <;> cases h <;> cases c <;> rfl
theorem FlagBits.pack_getLsbD_h (x : FlagBits) : x.pack.getLsbD 5 = x.h := x.pack_h
@[simp] theorem FlagBits.pack_c (x : FlagBits) : x.pack[4] = x.c := by
  obtain ⟨z, n, h, c⟩ := x
  cases z <;> cases n <;> cases h <;> cases c <;> rfl
theorem FlagBits.pack_getLsbD_c (x : FlagBits) : x.pack.getLsbD 4 = x.c := x.pack_c

/-- The four flags packed leave F's low nibble 0. -/
theorem FlagBits.pack_low (x : FlagBits) : x.pack &&& 0x0F = 0 := by
  obtain ⟨z, n, h, c⟩ := x
  cases z <;> cases n <;> cases h <;> cases c <;> rfl

/-- F through its mask keeps its four flags. -/
theorem maskF_low (v : Byte) : v &&& 0xF0 &&& 0x0F = 0 := by revert v; decide

/-- The LDH address is a sum. -/
theorem highPage_eq (n : Byte) : highPage n = 0xFF00 + n.setWidth 16 := by revert n; decide

/-- `sext_8` is the signed value of the byte. -/
theorem sext8_eq (n : Byte) : sext8 n = n.toInt := by revert n; decide

/-- `u8` of a natural number. -/
theorem u8_natCast (n : Nat) : u8 (n : Int) = BitVec.ofNat 8 n := by simp [u8]

/-- `u16` of a natural number. -/
theorem u16_natCast (n : Nat) : u16 (n : Int) = BitVec.ofNat 16 n := by simp [u16]

/-- `u8` is 0 exactly on the multiples of 256. -/
theorem u8_eq_zero (v : Int) : u8 v = 0 ↔ v % 256 = 0 := by
  unfold u8
  constructor
  · intro h
    have := congrArg BitVec.toNat h
    simp only [BitVec.toNat_ofInt] at this
    simp at this
    omega
  · intro h
    apply BitVec.eq_of_toNat_eq
    simp only [BitVec.toNat_ofInt]
    simp
    omega

end Sys2Proof.Machine
end

