-- ==== Sys2Proof/Laws/Shape.lean ====
section
/-! SUPPORT. The shape of every meaning: which shared operation it is, with which operands, so that a proof over all
instructions goes by the shared operations; and what a shape can do to the state, said once. -/

namespace Sys2Proof.Laws

open Sys2Proof Sys2Proof.Machine

/-- The shared operations of the meanings, with their operands. -/
inductive Shape where
  | loadR8 (dst src : R8) (n : Nat)
  | loadR8Imm (dst : R8) (v : Byte) (n : Nat)
  | loadA (addr : State → Word) (n : Nat)
  | storeA (addr : State → Word) (n : Nat)
  | loadAThenHl (step : Word)
  | storeAThenHl (step : Word)
  | loadR16 (r : R16) (v : Word)
  | storeSp (addr : Word)
  | loadSpHl
  | loadHlSpOffset (n : Byte)
  | pushStk (r : R16Stk)
  | popStk (r : R16Stk)
  | aluA (op : AluOp) (src : State → Byte) (n : Nat)
  | incR8 (r : R8) (n : Nat)
  | decR8 (r : R8) (n : Nat)
  | adjustA
  | complementA
  | setCarry
  | complementCarry
  | addHl (r : R16)
  | incR16 (r : R16)
  | decR16 (r : R16)
  | addSpOffset (n : Byte)
  | rotateA (op : RotOp)
  | rotateR8 (op : RotOp) (r : R8) (n : Nat)
  | bitBit (b : Nat) (r : R8) (n : Nat)
  | resBit (b : Nat) (r : R8) (n : Nat)
  | setBit (b : Nat) (r : R8) (n : Nat)
  | jumpTo (t : State → Word) (n : Nat)
  | jumpIf (cc : Cond) (t : Word)
  | jumpRelativeIf (cc : Cond) (n : Byte)
  | callTo (t : Word) (n : Nat)
  | callIf (cc : Cond) (t : Word)
  | ret
  | retIf (cc : Cond)
  | retInterrupt
  | noOperation (n : Nat)
  | enterHalt
  | enterStop
  | disableInterrupts
  | enableInterrupts
  | fetchSecondary

/-- What a shape answers. -/
def Shape.run (s : State) : Shape → Result
  | .loadR8 dst src n => Machine.loadR8 dst src n s
  | .loadR8Imm dst v n => Machine.loadR8Imm dst v n s
  | .loadA p n => Machine.loadA (p s) n s
  | .storeA p n => Machine.storeA (p s) n s
  | .loadAThenHl k => Machine.loadAThenHl k s
  | .storeAThenHl k => Machine.storeAThenHl k s
  | .loadR16 r v => Machine.loadR16 r v s
  | .storeSp a => Machine.storeSp a s
  | .loadSpHl => Machine.loadSpHl s
  | .loadHlSpOffset n => Machine.loadHlSpOffset n s
  | .pushStk r => Machine.pushStk r s
  | .popStk r => Machine.popStk r s
  | .aluA op p n => Machine.aluA op (p s) n s
  | .incR8 r n => Machine.incR8 r n s
  | .decR8 r n => Machine.decR8 r n s
  | .adjustA => Machine.adjustA s
  | .complementA => Machine.complementA s
  | .setCarry => Machine.setCarry s
  | .complementCarry => Machine.complementCarry s
  | .addHl r => Machine.addHl r s
  | .incR16 r => Machine.incR16 r s
  | .decR16 r => Machine.decR16 r s
  | .addSpOffset n => Machine.addSpOffset n s
  | .rotateA op => Machine.rotateA op s
  | .rotateR8 op r n => Machine.rotateR8 op r n s
  | .bitBit b r n => Machine.bitBit b r n s
  | .resBit b r n => Machine.resBit b r n s
  | .setBit b r n => Machine.setBit b r n s
  | .jumpTo t n => Machine.jumpTo (t s) n s
  | .jumpIf cc t => Machine.jumpIf cc t s
  | .jumpRelativeIf cc n => Machine.jumpRelativeIf cc n s
  | .callTo t n => Machine.callTo t n s
  | .callIf cc t => Machine.callIf cc t s
  | .ret => Machine.ret s
  | .retIf cc => Machine.retIf cc s
  | .retInterrupt => Machine.retInterrupt s
  | .noOperation n => Machine.noOperation n s
  | .enterHalt => Machine.enterHalt s
  | .enterStop => Machine.enterStop s
  | .disableInterrupts => Machine.disableInterrupts s
  | .enableInterrupts => Machine.enableInterrupts s
  | .fetchSecondary => Machine.fetchSecondary s

/-- The shape of an instruction's meaning. -/
def shapeOf : Instr → Shape
  | .nop => .noOperation 4
  | .ldBcD16 d16 => .loadR16 .bc d16
  | .ldIndBcA => .storeA (fun s => s.bc) 8
  | .incBc => .incR16 .bc
  | .incB => .incR8 .b 4
  | .decB => .decR8 .b 4
  | .ldBD8 d8 => .loadR8Imm .b d8 8
  | .rlca => .rotateA .rlc
  | .ldIndA16Sp a16 => .storeSp a16
  | .addHlBc => .addHl .bc
  | .ldAIndBc => .loadA (fun s => s.bc) 8
  | .decBc => .decR16 .bc
  | .incC => .incR8 .c 4
  | .decC => .decR8 .c 4
  | .ldCD8 d8 => .loadR8Imm .c d8 8
  | .rrca => .rotateA .rrc
  | .stop _ => .enterStop
  | .ldDeD16 d16 => .loadR16 .de d16
  | .ldIndDeA => .storeA (fun s => s.de) 8
  | .incDe => .incR16 .de
  | .incD => .incR8 .d 4
  | .decD => .decR8 .d 4
  | .ldDD8 d8 => .loadR8Imm .d d8 8
  | .rla => .rotateA .rl
  | .jrE8 e8 => .jumpTo (fun s => addSext s.cpu.pc e8) 12
  | .addHlDe => .addHl .de
  | .ldAIndDe => .loadA (fun s => s.de) 8
  | .decDe => .decR16 .de
  | .incE => .incR8 .e 4
  | .decE => .decR8 .e 4
  | .ldED8 d8 => .loadR8Imm .e d8 8
  | .rra => .rotateA .rr
  | .jrNzE8 e8 => .jumpRelativeIf .nz e8
  | .ldHlD16 d16 => .loadR16 .hl d16
  | .ldIndHlIncA => .storeAThenHl 1
  | .incHl => .incR16 .hl
  | .incH => .incR8 .h 4
  | .decH => .decR8 .h 4
  | .ldHD8 d8 => .loadR8Imm .h d8 8
  | .daa => .adjustA
  | .jrZE8 e8 => .jumpRelativeIf .z e8
  | .addHlHl => .addHl .hl
  | .ldAIndHlInc => .loadAThenHl 1
  | .decHl => .decR16 .hl
  | .incL => .incR8 .l 4
  | .decL => .decR8 .l 4
  | .ldLD8 d8 => .loadR8Imm .l d8 8
  | .cpl => .complementA
  | .jrNcE8 e8 => .jumpRelativeIf .nc e8
  | .ldSpD16 d16 => .loadR16 .sp d16
  | .ldIndHlDecA => .storeAThenHl 0xFFFF
  | .incSp => .incR16 .sp
  | .incIndHl => .incR8 .indHl 12
  | .decIndHl => .decR8 .indHl 12
  | .ldIndHlD8 d8 => .loadR8Imm .indHl d8 12
  | .scf => .setCarry
  | .jrCE8 e8 => .jumpRelativeIf .c e8
  | .addHlSp => .addHl .sp
  | .ldAIndHlDec => .loadAThenHl 0xFFFF
  | .decSp => .decR16 .sp
  | .incA => .incR8 .a 4
  | .decA => .decR8 .a 4
  | .ldAD8 d8 => .loadR8Imm .a d8 8
  | .ccf => .complementCarry
  | .ldBB => .loadR8 .b .b 4
  | .ldBC => .loadR8 .b .c 4
  | .ldBD => .loadR8 .b .d 4
  | .ldBE => .loadR8 .b .e 4
  | .ldBH => .loadR8 .b .h 4
  | .ldBL => .loadR8 .b .l 4
  | .ldBIndHl => .loadR8 .b .indHl 8
  | .ldBA => .loadR8 .b .a 4
  | .ldCB => .loadR8 .c .b 4
  | .ldCC => .loadR8 .c .c 4
  | .ldCD => .loadR8 .c .d 4
  | .ldCE => .loadR8 .c .e 4
  | .ldCH => .loadR8 .c .h 4
  | .ldCL => .loadR8 .c .l 4
  | .ldCIndHl => .loadR8 .c .indHl 8
  | .ldCA => .loadR8 .c .a 4
  | .ldDB => .loadR8 .d .b 4
  | .ldDC => .loadR8 .d .c 4
  | .ldDD => .loadR8 .d .d 4
  | .ldDE => .loadR8 .d .e 4
  | .ldDH => .loadR8 .d .h 4
  | .ldDL => .loadR8 .d .l 4
  | .ldDIndHl => .loadR8 .d .indHl 8
  | .ldDA => .loadR8 .d .a 4
  | .ldEB => .loadR8 .e .b 4
  | .ldEC => .loadR8 .e .c 4
  | .ldED => .loadR8 .e .d 4
  | .ldEE => .loadR8 .e .e 4
  | .ldEH => .loadR8 .e .h 4
  | .ldEL => .loadR8 .e .l 4
  | .ldEIndHl => .loadR8 .e .indHl 8
  | .ldEA => .loadR8 .e .a 4
  | .ldHB => .loadR8 .h .b 4
  | .ldHC => .loadR8 .h .c 4
  | .ldHD => .loadR8 .h .d 4
  | .ldHE => .loadR8 .h .e 4
  | .ldHH => .loadR8 .h .h 4
  | .ldHL => .loadR8 .h .l 4
  | .ldHIndHl => .loadR8 .h .indHl 8
  | .ldHA => .loadR8 .h .a 4
  | .ldLB => .loadR8 .l .b 4
  | .ldLC => .loadR8 .l .c 4
  | .ldLD => .loadR8 .l .d 4
  | .ldLE => .loadR8 .l .e 4
  | .ldLH => .loadR8 .l .h 4
  | .ldLL => .loadR8 .l .l 4
  | .ldLIndHl => .loadR8 .l .indHl 8
  | .ldLA => .loadR8 .l .a 4
  | .ldIndHlB => .loadR8 .indHl .b 8
  | .ldIndHlC => .loadR8 .indHl .c 8
  | .ldIndHlD => .loadR8 .indHl .d 8
  | .ldIndHlE => .loadR8 .indHl .e 8
  | .ldIndHlH => .loadR8 .indHl .h 8
  | .ldIndHlL => .loadR8 .indHl .l 8
  | .halt => .enterHalt
  | .ldIndHlA => .loadR8 .indHl .a 8
  | .ldAB => .loadR8 .a .b 4
  | .ldAC => .loadR8 .a .c 4
  | .ldAD => .loadR8 .a .d 4
  | .ldAE => .loadR8 .a .e 4
  | .ldAH => .loadR8 .a .h 4
  | .ldAL => .loadR8 .a .l 4
  | .ldAIndHl => .loadR8 .a .indHl 8
  | .ldAA => .loadR8 .a .a 4
  | .addAB => .aluA .add (fun s => readR8 s .b) 4
  | .addAC => .aluA .add (fun s => readR8 s .c) 4
  | .addAD => .aluA .add (fun s => readR8 s .d) 4
  | .addAE => .aluA .add (fun s => readR8 s .e) 4
  | .addAH => .aluA .add (fun s => readR8 s .h) 4
  | .addAL => .aluA .add (fun s => readR8 s .l) 4
  | .addAIndHl => .aluA .add (fun s => readR8 s .indHl) 8
  | .addAA => .aluA .add (fun s => readR8 s .a) 4
  | .adcAB => .aluA .adc (fun s => readR8 s .b) 4
  | .adcAC => .aluA .adc (fun s => readR8 s .c) 4
  | .adcAD => .aluA .adc (fun s => readR8 s .d) 4
  | .adcAE => .aluA .adc (fun s => readR8 s .e) 4
  | .adcAH => .aluA .adc (fun s => readR8 s .h) 4
  | .adcAL => .aluA .adc (fun s => readR8 s .l) 4
  | .adcAIndHl => .aluA .adc (fun s => readR8 s .indHl) 8
  | .adcAA => .aluA .adc (fun s => readR8 s .a) 4
  | .subB => .aluA .sub (fun s => readR8 s .b) 4
  | .subC => .aluA .sub (fun s => readR8 s .c) 4
  | .subD => .aluA .sub (fun s => readR8 s .d) 4
  | .subE => .aluA .sub (fun s => readR8 s .e) 4
  | .subH => .aluA .sub (fun s => readR8 s .h) 4
  | .subL => .aluA .sub (fun s => readR8 s .l) 4
  | .subIndHl => .aluA .sub (fun s => readR8 s .indHl) 8
  | .subA => .aluA .sub (fun s => readR8 s .a) 4
  | .sbcAB => .aluA .sbc (fun s => readR8 s .b) 4
  | .sbcAC => .aluA .sbc (fun s => readR8 s .c) 4
  | .sbcAD => .aluA .sbc (fun s => readR8 s .d) 4
  | .sbcAE => .aluA .sbc (fun s => readR8 s .e) 4
  | .sbcAH => .aluA .sbc (fun s => readR8 s .h) 4
  | .sbcAL => .aluA .sbc (fun s => readR8 s .l) 4
  | .sbcAIndHl => .aluA .sbc (fun s => readR8 s .indHl) 8
  | .sbcAA => .aluA .sbc (fun s => readR8 s .a) 4
  | .andB => .aluA .and (fun s => readR8 s .b) 4
  | .andC => .aluA .and (fun s => readR8 s .c) 4
  | .andD => .aluA .and (fun s => readR8 s .d) 4
  | .andE => .aluA .and (fun s => readR8 s .e) 4
  | .andH => .aluA .and (fun s => readR8 s .h) 4
  | .andL => .aluA .and (fun s => readR8 s .l) 4
  | .andIndHl => .aluA .and (fun s => readR8 s .indHl) 8
  | .andA => .aluA .and (fun s => readR8 s .a) 4
  | .xorB => .aluA .xor (fun s => readR8 s .b) 4
  | .xorC => .aluA .xor (fun s => readR8 s .c) 4
  | .xorD => .aluA .xor (fun s => readR8 s .d) 4
  | .xorE => .aluA .xor (fun s => readR8 s .e) 4
  | .xorH => .aluA .xor (fun s => readR8 s .h) 4
  | .xorL => .aluA .xor (fun s => readR8 s .l) 4
  | .xorIndHl => .aluA .xor (fun s => readR8 s .indHl) 8
  | .xorA => .aluA .xor (fun s => readR8 s .a) 4
  | .orB => .aluA .or (fun s => readR8 s .b) 4
  | .orC => .aluA .or (fun s => readR8 s .c) 4
  | .orD => .aluA .or (fun s => readR8 s .d) 4
  | .orE => .aluA .or (fun s => readR8 s .e) 4
  | .orH => .aluA .or (fun s => readR8 s .h) 4
  | .orL => .aluA .or (fun s => readR8 s .l) 4
  | .orIndHl => .aluA .or (fun s => readR8 s .indHl) 8
  | .orA => .aluA .or (fun s => readR8 s .a) 4
  | .cpB => .aluA .cp (fun s => readR8 s .b) 4
  | .cpC => .aluA .cp (fun s => readR8 s .c) 4
  | .cpD => .aluA .cp (fun s => readR8 s .d) 4
  | .cpE => .aluA .cp (fun s => readR8 s .e) 4
  | .cpH => .aluA .cp (fun s => readR8 s .h) 4
  | .cpL => .aluA .cp (fun s => readR8 s .l) 4
  | .cpIndHl => .aluA .cp (fun s => readR8 s .indHl) 8
  | .cpA => .aluA .cp (fun s => readR8 s .a) 4
  | .retNz => .retIf .nz
  | .popBc => .popStk .bc
  | .jpNzA16 a16 => .jumpIf .nz a16
  | .jpA16 a16 => .jumpTo (fun _ => a16) 16
  | .callNzA16 a16 => .callIf .nz a16
  | .pushBc => .pushStk .bc
  | .addAD8 d8 => .aluA .add (fun _ => d8) 8
  | .rst00 => .callTo 0x00 16
  | .retZ => .retIf .z
  | .ret => .ret
  | .jpZA16 a16 => .jumpIf .z a16
  | .prefixCb => .fetchSecondary
  | .callZA16 a16 => .callIf .z a16
  | .callA16 a16 => .callTo a16 24
  | .adcAD8 d8 => .aluA .adc (fun _ => d8) 8
  | .rst08 => .callTo 0x08 16
  | .retNc => .retIf .nc
  | .popDe => .popStk .de
  | .jpNcA16 a16 => .jumpIf .nc a16
  | .illegalD3 => .noOperation Config.illegalOpcodeCost
  | .callNcA16 a16 => .callIf .nc a16
  | .pushDe => .pushStk .de
  | .subD8 d8 => .aluA .sub (fun _ => d8) 8
  | .rst10 => .callTo 0x10 16
  | .retC => .retIf .c
  | .reti => .retInterrupt
  | .jpCA16 a16 => .jumpIf .c a16
  | .illegalDB => .noOperation Config.illegalOpcodeCost
  | .callCA16 a16 => .callIf .c a16
  | .illegalDD => .noOperation Config.illegalOpcodeCost
  | .sbcAD8 d8 => .aluA .sbc (fun _ => d8) 8
  | .rst18 => .callTo 0x18 16
  | .ldhIndA8A a8 => .storeA (fun _ => highPage a8) 12
  | .popHl => .popStk .hl
  | .ldhIndCA => .storeA (fun s => highPage s.cpu.c) 8
  | .illegalE3 => .noOperation Config.illegalOpcodeCost
  | .illegalE4 => .noOperation Config.illegalOpcodeCost
  | .pushHl => .pushStk .hl
  | .andD8 d8 => .aluA .and (fun _ => d8) 8
  | .rst20 => .callTo 0x20 16
  | .addSpE8 e8 => .addSpOffset e8
  | .jpHl => .jumpTo (fun s => s.hl) 4
  | .ldIndA16A a16 => .storeA (fun _ => a16) 16
  | .illegalEB => .noOperation Config.illegalOpcodeCost
  | .illegalEC => .noOperation Config.illegalOpcodeCost
  | .illegalED => .noOperation Config.illegalOpcodeCost
  | .xorD8 d8 => .aluA .xor (fun _ => d8) 8
  | .rst28 => .callTo 0x28 16
  | .ldhAIndA8 a8 => .loadA (fun _ => highPage a8) 12
  | .popAf => .popStk .af
  | .ldhAIndC => .loadA (fun s => highPage s.cpu.c) 8
  | .di => .disableInterrupts
  | .illegalF4 => .noOperation Config.illegalOpcodeCost
  | .pushAf => .pushStk .af
  | .orD8 d8 => .aluA .or (fun _ => d8) 8
  | .rst30 => .callTo 0x30 16
  | .ldHlSpE8 e8 => .loadHlSpOffset e8
  | .ldSpHl => .loadSpHl
  | .ldAIndA16 a16 => .loadA (fun _ => a16) 16
  | .ei => .enableInterrupts
  | .illegalFC => .noOperation Config.illegalOpcodeCost
  | .illegalFD => .noOperation Config.illegalOpcodeCost
  | .cpD8 d8 => .aluA .cp (fun _ => d8) 8
  | .rst38 => .callTo 0x38 16
  | .rlcB => .rotateR8 .rlc .b 8
  | .rlcC => .rotateR8 .rlc .c 8
  | .rlcD => .rotateR8 .rlc .d 8
  | .rlcE => .rotateR8 .rlc .e 8
  | .rlcH => .rotateR8 .rlc .h 8
  | .rlcL => .rotateR8 .rlc .l 8
  | .rlcIndHl => .rotateR8 .rlc .indHl 16
  | .rlcA => .rotateR8 .rlc .a 8
  | .rrcB => .rotateR8 .rrc .b 8
  | .rrcC => .rotateR8 .rrc .c 8
  | .rrcD => .rotateR8 .rrc .d 8
  | .rrcE => .rotateR8 .rrc .e 8
  | .rrcH => .rotateR8 .rrc .h 8
  | .rrcL => .rotateR8 .rrc .l 8
  | .rrcIndHl => .rotateR8 .rrc .indHl 16
  | .rrcA => .rotateR8 .rrc .a 8
  | .rlB => .rotateR8 .rl .b 8
  | .rlC => .rotateR8 .rl .c 8
  | .rlD => .rotateR8 .rl .d 8
  | .rlE => .rotateR8 .rl .e 8
  | .rlH => .rotateR8 .rl .h 8
  | .rlL => .rotateR8 .rl .l 8
  | .rlIndHl => .rotateR8 .rl .indHl 16
  | .rlA => .rotateR8 .rl .a 8
  | .rrB => .rotateR8 .rr .b 8
  | .rrC => .rotateR8 .rr .c 8
  | .rrD => .rotateR8 .rr .d 8
  | .rrE => .rotateR8 .rr .e 8
  | .rrH => .rotateR8 .rr .h 8
  | .rrL => .rotateR8 .rr .l 8
  | .rrIndHl => .rotateR8 .rr .indHl 16
  | .rrA => .rotateR8 .rr .a 8
  | .slaB => .rotateR8 .sla .b 8
  | .slaC => .rotateR8 .sla .c 8
  | .slaD => .rotateR8 .sla .d 8
  | .slaE => .rotateR8 .sla .e 8
  | .slaH => .rotateR8 .sla .h 8
  | .slaL => .rotateR8 .sla .l 8
  | .slaIndHl => .rotateR8 .sla .indHl 16
  | .slaA => .rotateR8 .sla .a 8
  | .sraB => .rotateR8 .sra .b 8
  | .sraC => .rotateR8 .sra .c 8
  | .sraD => .rotateR8 .sra .d 8
  | .sraE => .rotateR8 .sra .e 8
  | .sraH => .rotateR8 .sra .h 8
  | .sraL => .rotateR8 .sra .l 8
  | .sraIndHl => .rotateR8 .sra .indHl 16
  | .sraA => .rotateR8 .sra .a 8
  | .swapB => .rotateR8 .swap .b 8
  | .swapC => .rotateR8 .swap .c 8
  | .swapD => .rotateR8 .swap .d 8
  | .swapE => .rotateR8 .swap .e 8
  | .swapH => .rotateR8 .swap .h 8
  | .swapL => .rotateR8 .swap .l 8
  | .swapIndHl => .rotateR8 .swap .indHl 16
  | .swapA => .rotateR8 .swap .a 8
  | .srlB => .rotateR8 .srl .b 8
  | .srlC => .rotateR8 .srl .c 8
  | .srlD => .rotateR8 .srl .d 8
  | .srlE => .rotateR8 .srl .e 8
  | .srlH => .rotateR8 .srl .h 8
  | .srlL => .rotateR8 .srl .l 8
  | .srlIndHl => .rotateR8 .srl .indHl 16
  | .srlA => .rotateR8 .srl .a 8
  | .bit0B => .bitBit 0 .b 8
  | .bit0C => .bitBit 0 .c 8
  | .bit0D => .bitBit 0 .d 8
  | .bit0E => .bitBit 0 .e 8
  | .bit0H => .bitBit 0 .h 8
  | .bit0L => .bitBit 0 .l 8
  | .bit0IndHl => .bitBit 0 .indHl 12
  | .bit0A => .bitBit 0 .a 8
  | .bit1B => .bitBit 1 .b 8
  | .bit1C => .bitBit 1 .c 8
  | .bit1D => .bitBit 1 .d 8
  | .bit1E => .bitBit 1 .e 8
  | .bit1H => .bitBit 1 .h 8
  | .bit1L => .bitBit 1 .l 8
  | .bit1IndHl => .bitBit 1 .indHl 12
  | .bit1A => .bitBit 1 .a 8
  | .bit2B => .bitBit 2 .b 8
  | .bit2C => .bitBit 2 .c 8
  | .bit2D => .bitBit 2 .d 8
  | .bit2E => .bitBit 2 .e 8
  | .bit2H => .bitBit 2 .h 8
  | .bit2L => .bitBit 2 .l 8
  | .bit2IndHl => .bitBit 2 .indHl 12
  | .bit2A => .bitBit 2 .a 8
  | .bit3B => .bitBit 3 .b 8
  | .bit3C => .bitBit 3 .c 8
  | .bit3D => .bitBit 3 .d 8
  | .bit3E => .bitBit 3 .e 8
  | .bit3H => .bitBit 3 .h 8
  | .bit3L => .bitBit 3 .l 8
  | .bit3IndHl => .bitBit 3 .indHl 12
  | .bit3A => .bitBit 3 .a 8
  | .bit4B => .bitBit 4 .b 8
  | .bit4C => .bitBit 4 .c 8
  | .bit4D => .bitBit 4 .d 8
  | .bit4E => .bitBit 4 .e 8
  | .bit4H => .bitBit 4 .h 8
  | .bit4L => .bitBit 4 .l 8
  | .bit4IndHl => .bitBit 4 .indHl 12
  | .bit4A => .bitBit 4 .a 8
  | .bit5B => .bitBit 5 .b 8
  | .bit5C => .bitBit 5 .c 8
  | .bit5D => .bitBit 5 .d 8
  | .bit5E => .bitBit 5 .e 8
  | .bit5H => .bitBit 5 .h 8
  | .bit5L => .bitBit 5 .l 8
  | .bit5IndHl => .bitBit 5 .indHl 12
  | .bit5A => .bitBit 5 .a 8
  | .bit6B => .bitBit 6 .b 8
  | .bit6C => .bitBit 6 .c 8
  | .bit6D => .bitBit 6 .d 8
  | .bit6E => .bitBit 6 .e 8
  | .bit6H => .bitBit 6 .h 8
  | .bit6L => .bitBit 6 .l 8
  | .bit6IndHl => .bitBit 6 .indHl 12
  | .bit6A => .bitBit 6 .a 8
  | .bit7B => .bitBit 7 .b 8
  | .bit7C => .bitBit 7 .c 8
  | .bit7D => .bitBit 7 .d 8
  | .bit7E => .bitBit 7 .e 8
  | .bit7H => .bitBit 7 .h 8
  | .bit7L => .bitBit 7 .l 8
  | .bit7IndHl => .bitBit 7 .indHl 12
  | .bit7A => .bitBit 7 .a 8
  | .res0B => .resBit 0 .b 8
  | .res0C => .resBit 0 .c 8
  | .res0D => .resBit 0 .d 8
  | .res0E => .resBit 0 .e 8
  | .res0H => .resBit 0 .h 8
  | .res0L => .resBit 0 .l 8
  | .res0IndHl => .resBit 0 .indHl 16
  | .res0A => .resBit 0 .a 8
  | .res1B => .resBit 1 .b 8
  | .res1C => .resBit 1 .c 8
  | .res1D => .resBit 1 .d 8
  | .res1E => .resBit 1 .e 8
  | .res1H => .resBit 1 .h 8
  | .res1L => .resBit 1 .l 8
  | .res1IndHl => .resBit 1 .indHl 16
  | .res1A => .resBit 1 .a 8
  | .res2B => .resBit 2 .b 8
  | .res2C => .resBit 2 .c 8
  | .res2D => .resBit 2 .d 8
  | .res2E => .resBit 2 .e 8
  | .res2H => .resBit 2 .h 8
  | .res2L => .resBit 2 .l 8
  | .res2IndHl => .resBit 2 .indHl 16
  | .res2A => .resBit 2 .a 8
  | .res3B => .resBit 3 .b 8
  | .res3C => .resBit 3 .c 8
  | .res3D => .resBit 3 .d 8
  | .res3E => .resBit 3 .e 8
  | .res3H => .resBit 3 .h 8
  | .res3L => .resBit 3 .l 8
  | .res3IndHl => .resBit 3 .indHl 16
  | .res3A => .resBit 3 .a 8
  | .res4B => .resBit 4 .b 8
  | .res4C => .resBit 4 .c 8
  | .res4D => .resBit 4 .d 8
  | .res4E => .resBit 4 .e 8
  | .res4H => .resBit 4 .h 8
  | .res4L => .resBit 4 .l 8
  | .res4IndHl => .resBit 4 .indHl 16
  | .res4A => .resBit 4 .a 8
  | .res5B => .resBit 5 .b 8
  | .res5C => .resBit 5 .c 8
  | .res5D => .resBit 5 .d 8
  | .res5E => .resBit 5 .e 8
  | .res5H => .resBit 5 .h 8
  | .res5L => .resBit 5 .l 8
  | .res5IndHl => .resBit 5 .indHl 16
  | .res5A => .resBit 5 .a 8
  | .res6B => .resBit 6 .b 8
  | .res6C => .resBit 6 .c 8
  | .res6D => .resBit 6 .d 8
  | .res6E => .resBit 6 .e 8
  | .res6H => .resBit 6 .h 8
  | .res6L => .resBit 6 .l 8
  | .res6IndHl => .resBit 6 .indHl 16
  | .res6A => .resBit 6 .a 8
  | .res7B => .resBit 7 .b 8
  | .res7C => .resBit 7 .c 8
  | .res7D => .resBit 7 .d 8
  | .res7E => .resBit 7 .e 8
  | .res7H => .resBit 7 .h 8
  | .res7L => .resBit 7 .l 8
  | .res7IndHl => .resBit 7 .indHl 16
  | .res7A => .resBit 7 .a 8
  | .set0B => .setBit 0 .b 8
  | .set0C => .setBit 0 .c 8
  | .set0D => .setBit 0 .d 8
  | .set0E => .setBit 0 .e 8
  | .set0H => .setBit 0 .h 8
  | .set0L => .setBit 0 .l 8
  | .set0IndHl => .setBit 0 .indHl 16
  | .set0A => .setBit 0 .a 8
  | .set1B => .setBit 1 .b 8
  | .set1C => .setBit 1 .c 8
  | .set1D => .setBit 1 .d 8
  | .set1E => .setBit 1 .e 8
  | .set1H => .setBit 1 .h 8
  | .set1L => .setBit 1 .l 8
  | .set1IndHl => .setBit 1 .indHl 16
  | .set1A => .setBit 1 .a 8
  | .set2B => .setBit 2 .b 8
  | .set2C => .setBit 2 .c 8
  | .set2D => .setBit 2 .d 8
  | .set2E => .setBit 2 .e 8
  | .set2H => .setBit 2 .h 8
  | .set2L => .setBit 2 .l 8
  | .set2IndHl => .setBit 2 .indHl 16
  | .set2A => .setBit 2 .a 8
  | .set3B => .setBit 3 .b 8
  | .set3C => .setBit 3 .c 8
  | .set3D => .setBit 3 .d 8
  | .set3E => .setBit 3 .e 8
  | .set3H => .setBit 3 .h 8
  | .set3L => .setBit 3 .l 8
  | .set3IndHl => .setBit 3 .indHl 16
  | .set3A => .setBit 3 .a 8
  | .set4B => .setBit 4 .b 8
  | .set4C => .setBit 4 .c 8
  | .set4D => .setBit 4 .d 8
  | .set4E => .setBit 4 .e 8
  | .set4H => .setBit 4 .h 8
  | .set4L => .setBit 4 .l 8
  | .set4IndHl => .setBit 4 .indHl 16
  | .set4A => .setBit 4 .a 8
  | .set5B => .setBit 5 .b 8
  | .set5C => .setBit 5 .c 8
  | .set5D => .setBit 5 .d 8
  | .set5E => .setBit 5 .e 8
  | .set5H => .setBit 5 .h 8
  | .set5L => .setBit 5 .l 8
  | .set5IndHl => .setBit 5 .indHl 16
  | .set5A => .setBit 5 .a 8
  | .set6B => .setBit 6 .b 8
  | .set6C => .setBit 6 .c 8
  | .set6D => .setBit 6 .d 8
  | .set6E => .setBit 6 .e 8
  | .set6H => .setBit 6 .h 8
  | .set6L => .setBit 6 .l 8
  | .set6IndHl => .setBit 6 .indHl 16
  | .set6A => .setBit 6 .a 8
  | .set7B => .setBit 7 .b 8
  | .set7C => .setBit 7 .c 8
  | .set7D => .setBit 7 .d 8
  | .set7E => .setBit 7 .e 8
  | .set7H => .setBit 7 .h 8
  | .set7L => .setBit 7 .l 8
  | .set7IndHl => .setBit 7 .indHl 16
  | .set7A => .setBit 7 .a 8

/-- Every instruction's meaning is what its shape answers. -/
theorem exec_shape (i : Instr) (s : State) : exec i s = (shapeOf i).run s := by
  cases i <;> rfl

/-- The shape the second opcode byte selects after the prefix byte. -/
def secondaryShape (op2 : Byte) : Shape :=
  let y := op2.toNat / 8 % 8
  let r := r8OfIndex (op2.extractLsb' 0 3)
  match op2.toNat / 64 with
  | 0 => .rotateR8 (rotOfIndex y) r (if r = .indHl then 16 else 8)
  | 1 => .bitBit y r (if r = .indHl then 12 else 8)
  | 2 => .resBit y r (if r = .indHl then 16 else 8)
  | _ => .setBit y r (if r = .indHl then 16 else 8)

/-- The prefix byte alone runs the shape its second byte selects. -/
theorem fetchSecondary_shape (s : State) :
    Machine.fetchSecondary s = (secondaryShape (fetchByte s)).run (skipBytes s 1) := by
  unfold Machine.fetchSecondary execSecondary secondaryShape
  dsimp only
  generalize (fetchByte s).toNat / 64 = x
  match x with
  | 0 => rfl
  | 1 => rfl
  | 2 => rfl
  | _ + 3 => rfl

/-- Everything an instruction can do to the state: write registers (F's low nibble staying 0), write bytes through the bus,
set the interrupt enables, and leave its cycle count; in any order, and nothing else. -/
inductive Effect (s : State) : State → Prop
  | start : Effect s s
  | cpu (t : State) (c : Cpu) : Effect s t → (t.cpu.f &&& 0x0F = 0 → c.f &&& 0x0F = 0) → Effect s { t with cpu := c }
  | write (t : State) (a : Word) (v : Byte) : Effect s t → Effect s (busWrite t a v)
  | enables (t : State) (b p : Bool) : Effect s t → Effect s { t with irq := { t.irq with ime := b, imePending := p } }
  | took (t : State) (n : Nat) : Effect s t → Effect s (t.took n)

variable {s t : State}

theorem Effect.withPc (v : Word) (h : Effect s t) : Effect s (t.withPc v) := .cpu t _ h id
theorem Effect.withSp (v : Word) (h : Effect s t) : Effect s (t.withSp v) := .cpu t _ h id
theorem Effect.withA (v : Byte) (h : Effect s t) : Effect s (t.withA v) := .cpu t _ h id
theorem Effect.withBc (v : Word) (h : Effect s t) : Effect s (t.withBc v) := .cpu t _ h id
theorem Effect.withDe (v : Word) (h : Effect s t) : Effect s (t.withDe v) := .cpu t _ h id
theorem Effect.withHl (v : Word) (h : Effect s t) : Effect s (t.withHl v) := .cpu t _ h id
theorem Effect.withAf (v : Word) (h : Effect s t) : Effect s (t.withAf v) :=
  .cpu t _ h fun _ => by
    exact maskF_low _
theorem Effect.withFlags (x : FlagBits) (h : Effect s t) : Effect s (t.withFlags x) := .cpu t _ h fun _ => FlagBits.pack_low x
theorem Effect.writeR8 (r : R8) (v : Byte) (h : Effect s t) : Effect s (Machine.writeR8 t r v) := by
  cases r
  case indHl => exact .write t _ v h
  all_goals exact .cpu t _ h id
theorem Effect.writeR16 (r : R16) (v : Word) (h : Effect s t) : Effect s (Machine.writeR16 t r v) := by
  cases r
  · exact h.withBc v
  · exact h.withDe v
  · exact h.withHl v
  · exact h.withSp v
theorem Effect.writeStk (r : R16Stk) (v : Word) (h : Effect s t) : Effect s (Machine.writeStk t r v) := by
  cases r
  · exact h.withBc v
  · exact h.withDe v
  · exact h.withHl v
  · exact h.withAf v
theorem Effect.push16 (v : Word) (h : Effect s t) : Effect s (Machine.push16 t v) := by
  rw [push16_eq]
  exact .withSp _ (.write _ _ _ (.write _ _ _ h))
theorem Effect.returnToPopped (h : Effect s t) : Effect s (Machine.returnToPopped t) := .withPc _ (.withSp _ h)

/-- A shape of the secondary table answers a next state with that effect. -/
theorem secondaryShape_effect (op2 : Byte) (t : State) (h : Effect s t) :
    ∃ u, (secondaryShape op2).run t = .next u ∧ Effect s u := by
  unfold secondaryShape
  dsimp only
  generalize op2.toNat / 64 = x
  match x with
  | 0 => exact ⟨_, rfl, .took _ _ (.writeR8 _ _ (.withFlags _ h))⟩
  | 1 => exact ⟨_, rfl, .took _ _ (.withFlags _ h)⟩
  | 2 => exact ⟨_, rfl, .took _ _ (.writeR8 _ _ h)⟩
  | _ + 3 => exact ⟨_, rfl, .took _ _ (.writeR8 _ _ h)⟩

/-- Every shape answers a next state with that effect. -/
theorem Shape.effect (p : Shape) (s : State) : ∃ u, p.run s = .next u ∧ Effect s u := by
  have h := Effect.start (s := s)
  cases p
  case loadR8 => exact ⟨_, rfl, .took _ _ (.writeR8 _ _ h)⟩
  case loadR8Imm => exact ⟨_, rfl, .took _ _ (.writeR8 _ _ h)⟩
  case loadA => exact ⟨_, rfl, .took _ _ (.withA _ h)⟩
  case storeA => exact ⟨_, rfl, .took _ _ (.write _ _ _ h)⟩
  case loadAThenHl => exact ⟨_, rfl, .took _ _ (.withHl _ (.withA _ h))⟩
  case storeAThenHl => exact ⟨_, rfl, .took _ _ (.withHl _ (.write _ _ _ h))⟩
  case loadR16 => exact ⟨_, rfl, .took _ _ (.writeR16 _ _ h)⟩
  case storeSp => exact ⟨_, rfl, .took _ _ (.write _ _ _ (.write _ _ _ h))⟩
  case loadSpHl => exact ⟨_, rfl, .took _ _ (.withSp _ h)⟩
  case loadHlSpOffset => exact ⟨_, rfl, .took _ _ (.withHl _ (.withFlags _ h))⟩
  case pushStk => exact ⟨_, rfl, .took _ _ (.push16 _ h)⟩
  case popStk => exact ⟨_, rfl, .took _ _ (.writeStk _ _ (.withSp _ h))⟩
  case aluA => exact ⟨_, rfl, .took _ _ (.withA _ (.withFlags _ h))⟩
  case incR8 => exact ⟨_, rfl, .took _ _ (.writeR8 _ _ (.withFlags _ h))⟩
  case decR8 => exact ⟨_, rfl, .took _ _ (.writeR8 _ _ (.withFlags _ h))⟩
  case adjustA => exact ⟨_, rfl, .took _ _ (.withA _ (.withFlags _ h))⟩
  case complementA => exact ⟨_, rfl, .took _ _ (.withA _ (.withFlags _ h))⟩
  case setCarry => exact ⟨_, rfl, .took _ _ (.withFlags _ h)⟩
  case complementCarry => exact ⟨_, rfl, .took _ _ (.withFlags _ h)⟩
  case addHl => exact ⟨_, rfl, .took _ _ (.withHl _ (.withFlags _ h))⟩
  case incR16 => exact ⟨_, rfl, .took _ _ (.writeR16 _ _ h)⟩
  case decR16 => exact ⟨_, rfl, .took _ _ (.writeR16 _ _ h)⟩
  case addSpOffset => exact ⟨_, rfl, .took _ _ (.withSp _ (.withFlags _ h))⟩
  case rotateA => exact ⟨_, rfl, .took _ _ (.withA _ (.withFlags _ h))⟩
  case rotateR8 => exact ⟨_, rfl, .took _ _ (.writeR8 _ _ (.withFlags _ h))⟩
  case bitBit => exact ⟨_, rfl, .took _ _ (.withFlags _ h)⟩
  case resBit => exact ⟨_, rfl, .took _ _ (.writeR8 _ _ h)⟩
  case setBit => exact ⟨_, rfl, .took _ _ (.writeR8 _ _ h)⟩
  case jumpTo => exact ⟨_, rfl, .took _ _ (.withPc _ h)⟩
  case jumpIf =>
    refine ⟨_, rfl, ?_⟩
    split
    · exact .took _ _ (.withPc _ h)
    · exact .took _ _ h
  case jumpRelativeIf =>
    refine ⟨_, rfl, ?_⟩
    split
    · exact .took _ _ (.withPc _ h)
    · exact .took _ _ h
  case callTo => exact ⟨_, rfl, .took _ _ (.withPc _ (.push16 _ h))⟩
  case callIf =>
    refine ⟨_, rfl, ?_⟩
    split
    · exact .took _ _ (.withPc _ (.push16 _ h))
    · exact .took _ _ h
  case ret => exact ⟨_, rfl, .took _ _ (.returnToPopped h)⟩
  case retIf =>
    refine ⟨_, rfl, ?_⟩
    split
    · exact .took _ _ (.returnToPopped h)
    · exact .took _ _ h
  case retInterrupt => exact ⟨_, rfl, .took _ _ (.enables _ _ _ (.returnToPopped h))⟩
  case noOperation => exact ⟨_, rfl, .took _ _ h⟩
  case enterHalt => exact ⟨_, rfl, .took _ _ (.cpu _ _ h id)⟩
  case enterStop => exact ⟨_, rfl, .took _ _ (.cpu _ _ h id)⟩
  case disableInterrupts => exact ⟨_, rfl, .took _ _ (.enables _ _ _ h)⟩
  case enableInterrupts => exact ⟨_, rfl, .took _ _ (.enables _ s.irq.ime true h)⟩
  case fetchSecondary =>
    show ∃ u, Machine.fetchSecondary s = .next u ∧ Effect s u
    rw [fetchSecondary_shape]
    exact secondaryShape_effect _ _ (.withPc _ h)

/-- Every instruction answers a next state with that effect. -/
theorem exec_effect (i : Instr) (s : State) : ∃ u, exec i s = .next u ∧ Effect s u := by
  rw [exec_shape]
  exact Shape.effect _ _

/-- No instruction touches the cartridge, the host's inputs, the buttons or the frame handed off. -/
theorem Effect.frame (h : Effect s t) :
    t.cart = s.cart ∧ t.inputs = s.inputs ∧ t.joypad.buttons = s.joypad.buttons ∧ t.frame = s.frame := by
  induction h with
  | start => exact ⟨rfl, rfl, rfl, rfl⟩
  | cpu t c _ _ ih => exact ih
  | write t a v _ ih => simpa using ih
  | enables t b p _ ih => exact ih
  | took t n _ ih => exact ih

end Sys2Proof.Laws
end

