-- ==== Sys2Proof/Laws/Frame.lean ====
section
/-! SUPPORT. What a shape stores: the bytes it writes through the bus, in order, named by the state before it; all else it
changes is the registers of the CPU, the two interrupt enables and the cycle count. -/

namespace Sys2Proof.Laws

open Sys2Proof Sys2Proof.Machine

/-- Bytes written through the bus, in order. -/
def writeAll (s : State) : List (Word × Byte) → State
  | [] => s
  | x :: xs => writeAll (busWrite s x.1 x.2) xs

/-- The bytes of a push, in the order they are stored. -/
def pushBytes (s : State) (v : Word) : List (Word × Byte) := [(s.cpu.sp - 1, hiByte v), (s.cpu.sp - 2, loByte v)]

/-- The byte stored by a write of `r8[r]`: none for a register. -/
def storedAt (s : State) (r : R8) (v : Byte) : List (Word × Byte) := if r = .indHl then [(s.hl, v)] else []

/-- The bytes a shape stores, in order; the prefix byte is the shape its second byte selects. -/
def Shape.stores (s : State) : Shape → List (Word × Byte)
  | .loadR8 dst src _ => storedAt s dst (readR8 s src)
  | .loadR8Imm dst v _ => storedAt s dst v
  | .storeA p _ => [(p s, s.cpu.a)]
  | .storeAThenHl _ => [(s.hl, s.cpu.a)]
  | .storeSp a => [(a, loByte s.cpu.sp), (a + 1, hiByte s.cpu.sp)]
  | .pushStk r => pushBytes s (readStk s r)
  | .incR8 r _ => storedAt s r (incFlags (readR8 s r) s.flagC).1
  | .decR8 r _ => storedAt s r (decFlags (readR8 s r) s.flagC).1
  | .rotateR8 op r _ => storedAt s r (rotateFlags op (readR8 s r) s.flagC).1
  | .resBit b r _ => storedAt s r (readR8 s r &&& ~~~(bitAt true b))
  | .setBit b r _ => storedAt s r (readR8 s r ||| bitAt true b)
  | .callTo _ _ => pushBytes s s.cpu.pc
  | .callIf cc _ => if s.holds cc then pushBytes s s.cpu.pc else []
  | _ => []

/-- `t` is `s` after some bytes are stored, but for the registers of the CPU, the interrupt enables and the cycles. -/
def StoresOnly (s t : State) (l : List (Word × Byte)) : Prop :=
  ∃ (c : Cpu) (b p : Bool) (n : Nat),
    t = { writeAll s l with cpu := c, irq := { (writeAll s l).irq with ime := b, imePending := p }, cycles := n }

/-- A state that changes none but those parts stores nothing. -/
theorem storesOnly_nil {s t : State} (c : Cpu) (b p : Bool) (n : Nat)
    (h : t = { s with cpu := c, irq := { s.irq with ime := b, imePending := p }, cycles := n }) : StoresOnly s t [] :=
  ⟨c, b, p, n, h⟩

/-- What a write of `r8[r]` stores, the registers having changed before it but for HL. -/
theorem storesOnly_writeR8 (s : State) (c : Cpu) (r : R8) (v : Byte) (n : Nat) (h : c.h = s.cpu.h) (l : c.l = s.cpu.l) :
    StoresOnly s ((writeR8 { s with cpu := c } r v).took n) (storedAt s r v) := by
  cases r
  case indHl =>
    refine ⟨c, s.irq.ime, s.irq.imePending, n, ?_⟩
    have e : State.hl { s with cpu := c } = s.hl := by simp only [State.hl, h, l]
    have hw := busWrite_of_cpu s c s.cycles s.hl v
    have hi := busWrite_ime s s.hl v
    have hp := busWrite_imePending s s.hl v
    simp only [storedAt, if_true, writeAll, writeR8, e, State.took]
    rw [hw, ← hi, ← hp]
  all_goals exact storesOnly_nil _ s.irq.ime s.irq.imePending n rfl

/-- What a push stores. -/
theorem storesOnly_push (s : State) (v t : Word) (n : Nat) : StoresOnly s (((push16 s v).withPc t).took n) (pushBytes s v) := by
  have e : s.cpu.sp - 1 - 1 = s.cpu.sp - 2 := by bv_omega
  rw [push16_eq, e]
  refine ⟨{ s.cpu with sp := s.cpu.sp - 2, pc := t }, s.irq.ime, s.irq.imePending, n, ?_⟩
  simp only [pushBytes, writeAll, State.withSp, State.withPc, State.took]
  generalize hu : busWrite (busWrite s (s.cpu.sp - 1) (hiByte v)) (s.cpu.sp - 2) (loByte v) = u
  have hc : u.cpu = s.cpu := by rw [← hu, busWrite_cpu, busWrite_cpu]
  have hi : u.irq.ime = s.irq.ime := by rw [← hu, busWrite_ime, busWrite_ime]
  have hp : u.irq.imePending = s.irq.imePending := by rw [← hu, busWrite_imePending, busWrite_imePending]
  rw [hc, ← hi, ← hp]

/-- Every shape but the prefix byte stores its bytes and nothing else. -/
theorem Shape.storesOnly (p : Shape) (hp : p ≠ .fetchSecondary) (s t : State) (h : p.run s = .next t) :
    StoresOnly s t (p.stores s) := by
  cases p
  case fetchSecondary => exact absurd rfl hp
  case loadR8 => cases h; exact storesOnly_writeR8 s s.cpu _ _ _ rfl rfl
  case loadR8Imm => cases h; exact storesOnly_writeR8 s s.cpu _ _ _ rfl rfl
  case incR8 => cases h; exact storesOnly_writeR8 s _ _ _ _ rfl rfl
  case decR8 => cases h; exact storesOnly_writeR8 s _ _ _ _ rfl rfl
  case rotateR8 => cases h; exact storesOnly_writeR8 s _ _ _ _ rfl rfl
  case resBit => cases h; exact storesOnly_writeR8 s s.cpu _ _ _ rfl rfl
  case setBit => cases h; exact storesOnly_writeR8 s s.cpu _ _ _ rfl rfl
  case storeA p n =>
    cases h
    refine ⟨s.cpu, s.irq.ime, s.irq.imePending, n, ?_⟩
    simp only [Shape.stores, writeAll, State.took]
    generalize hu : busWrite s (p s) s.cpu.a = u
    have hc : u.cpu = s.cpu := by rw [← hu, busWrite_cpu]
    have hi : u.irq.ime = s.irq.ime := by rw [← hu, busWrite_ime]
    have hp : u.irq.imePending = s.irq.imePending := by rw [← hu, busWrite_imePending]
    rw [← hc, ← hi, ← hp]
  case storeAThenHl k =>
    cases h
    refine ⟨{ s.cpu with h := hiByte (s.hl + k), l := loByte (s.hl + k) }, s.irq.ime, s.irq.imePending, 8, ?_⟩
    simp only [Shape.stores, writeAll, State.took, State.withHl, busWrite_cpu]
    conv_rhs => rw [← busWrite_ime s s.hl s.cpu.a, ← busWrite_imePending s s.hl s.cpu.a]
  case storeSp a =>
    cases h
    refine ⟨s.cpu, s.irq.ime, s.irq.imePending, 20, ?_⟩
    simp only [Shape.stores, writeAll, State.took, writeWord]
    generalize hu : busWrite (busWrite s a (loByte s.cpu.sp)) (a + 1) (hiByte s.cpu.sp) = u
    have hc : u.cpu = s.cpu := by rw [← hu, busWrite_cpu, busWrite_cpu]
    have hi : u.irq.ime = s.irq.ime := by rw [← hu, busWrite_ime, busWrite_ime]
    have hp : u.irq.imePending = s.irq.imePending := by rw [← hu, busWrite_imePending, busWrite_imePending]
    rw [← hc, ← hi, ← hp]
  case pushStk r =>
    cases h
    have := storesOnly_push s (readStk s r) s.cpu.pc 16
    have e : (push16 s (readStk s r)).withPc s.cpu.pc = push16 s (readStk s r) := by
      have hc := push16_cpu s (readStk s r)
      unfold State.withPc
      conv_lhs => rw [show s.cpu.pc = (push16 s (readStk s r)).cpu.pc by rw [hc]]
    rw [e] at this
    exact this
  case callTo => cases h; exact storesOnly_push s _ _ _
  case callIf cc t =>
    cases h
    simp only [Shape.stores]
    split
    · exact storesOnly_push s _ _ _
    · exact storesOnly_nil s.cpu s.irq.ime s.irq.imePending 12 rfl
  case jumpIf =>
    cases h
    split <;> exact storesOnly_nil _ s.irq.ime s.irq.imePending _ rfl
  case jumpRelativeIf =>
    cases h
    split <;> exact storesOnly_nil _ s.irq.ime s.irq.imePending _ rfl
  case retIf =>
    cases h
    split <;> exact storesOnly_nil _ s.irq.ime s.irq.imePending _ rfl
  case popStk r => cases h; cases r <;> exact storesOnly_nil _ s.irq.ime s.irq.imePending _ rfl
  case loadR16 r _ => cases h; cases r <;> exact storesOnly_nil _ s.irq.ime s.irq.imePending _ rfl
  case incR16 r => cases h; cases r <;> exact storesOnly_nil _ s.irq.ime s.irq.imePending _ rfl
  case decR16 r => cases h; cases r <;> exact storesOnly_nil _ s.irq.ime s.irq.imePending _ rfl
  case retInterrupt => cases h; exact storesOnly_nil _ true false _ rfl
  case disableInterrupts => cases h; exact storesOnly_nil _ false false _ rfl
  case enableInterrupts => cases h; exact storesOnly_nil _ s.irq.ime true _ rfl
  all_goals cases h; exact storesOnly_nil _ s.irq.ime s.irq.imePending _ rfl

/-- The instruction of the secondary table has the shape its byte selects, its own two bytes, and is not the prefix byte. -/
theorem secondary_forms (b : Byte) :
    decodeBytes 0xCB b 0 ≠ .prefixCb ∧ shapeOf (decodeBytes 0xCB b 0) = secondaryShape b ∧
      encode (decodeBytes 0xCB b 0) = [0xCB, b] := by
  have h : ∀ n < 256, decodeBytes 0xCB (BitVec.ofNat 8 n) 0 ≠ .prefixCb ∧
      shapeOf (decodeBytes 0xCB (BitVec.ofNat 8 n) 0) = secondaryShape (BitVec.ofNat 8 n) ∧
      encode (decodeBytes 0xCB (BitVec.ofNat 8 n) 0) = [0xCB, BitVec.ofNat 8 n] := by
    intro n hn
    interval_cases n <;> exact ⟨nofun, rfl, rfl⟩
  simpa using h b.toNat b.isLt

/-- The prefix byte alone runs the instruction its second byte selects, one byte further. -/
theorem exec_prefixCb (s : State) : exec .prefixCb s = exec (decodeBytes 0xCB (busRead s s.cpu.pc) 0) (skipBytes s 1) := by
  have h : exec .prefixCb s = Machine.fetchSecondary s := rfl
  rw [h, fetchSecondary_shape, exec_shape, (secondary_forms _).2.1]
  rfl

end Sys2Proof.Laws
end

