-- ==== Sys2Proof/Laws/Legal.lean ====
section
/-! SUPPORT. The legal states: what a byte write, an instruction, an interrupt dispatch and the devices keep of them. -/

namespace Sys2Proof.Laws

open Sys2Proof Sys2Proof.Machine Sys2Proof.Safety

/-- Legality does not look at the CPU but for F's low nibble, nor at the interrupt state, the joypad, DMA, the inputs and
the results of the last step. -/
theorem Legal.of_eq {s t : State} (h : Legal s) (hf : t.cpu.f &&& 0x0F = 0) (hm : t.mem = s.mem) (hc : t.cart = s.cart)
    (hp : t.ppu = s.ppu) (ht : t.timer = s.timer) : Legal t where
  flagsLow := hf
  memCanonical := by rw [hm]; exact h.memCanonical
  romCanonical := by rw [hc]; exact h.romCanonical
  memBacked := by rw [hm]; exact h.memBacked
  romBacked := by rw [hc]; exact h.romBacked
  ppuInBudget := by rw [hp]; exact h.ppuInBudget
  ppuOff := by rw [hp]; exact h.ppuOff
  reloadWindow := by rw [ht]; exact h.reloadWindow

/-- A write to LCDC keeps the PPU's budgets and its rest when off. -/
theorem writeLcdc_legal (p : Ppu) (v : Byte) (h1 : PpuInBudget p) (h2 : PpuOffAtRest p) :
    PpuInBudget (p.writeLcdc v) ∧ PpuOffAtRest (p.writeLcdc v) := by
  unfold Ppu.writeLcdc
  cases hb : bit p.lcdc 7 <;> cases hv : bit v 7 <;> simp only [Bool.not_true, Bool.not_false, Bool.and_true, Bool.and_false,
    if_true, if_false, Bool.false_eq_true]
  · exact ⟨h1, fun _ => h2 hb⟩
  · obtain ⟨hl, _, _, _⟩ := h2 hb
    exact ⟨by simp [PpuInBudget, hl, Config.oamSearchLen], fun h => absurd h (by simp [hv])⟩
  · exact ⟨by simp [PpuInBudget, Config.hblankLen, Config.oamSearchLen, Config.pixelTransferLen], fun _ => ⟨rfl, rfl, rfl, rfl⟩⟩
  · exact ⟨h1, fun h => absurd h (by simp [hv])⟩

/-- A write to LY keeps the PPU's budgets and its rest when off. -/
theorem writeLy_legal (p : Ppu) (h1 : PpuInBudget p) (h2 : PpuOffAtRest p) :
    PpuInBudget { p with ly := 0 } ∧ PpuOffAtRest { p with ly := 0 } := by
  refine ⟨?_, fun h => ⟨rfl, (h2 h).2⟩⟩
  obtain ⟨_, h⟩ := h1
  unfold PpuInBudget
  refine ⟨by simp, ?_⟩
  cases hm : p.mode <;> rw [hm] at h <;> simp_all

/-- A byte write keeps the PPU's budgets and its rest when off. -/
theorem busWrite_ppu_legal (s : State) (a : Word) (v : Byte) (h1 : PpuInBudget s.ppu) (h2 : PpuOffAtRest s.ppu) :
    PpuInBudget (busWrite s a v).ppu ∧ PpuOffAtRest (busWrite s a v).ppu := by
  unfold busWrite
  split
  case h_17 =>
    obtain ⟨m, hm⟩ := oamDma_eq s v
    rw [hm]; exact ⟨h1, h2⟩
  case h_11 => exact writeLcdc_legal _ _ h1 h2
  case h_15 => exact writeLy_legal _ h1 h2
  all_goals exact ⟨h1, h2⟩

/-- A byte write keeps the reload window within its length. -/
theorem busWrite_reloadDelay (s : State) (a : Word) (v : Byte) (h : s.timer.reloadDelay ≤ Config.timaReloadDelay) :
    (busWrite s a v).timer.reloadDelay ≤ Config.timaReloadDelay := by
  unfold busWrite
  split
  case h_17 =>
    obtain ⟨m, hm⟩ := oamDma_eq s v
    rw [hm]; exact h
  case h_6 => exact Timer.afterEdge_reloadDelay _ _ h
  case h_7 => exact Nat.zero_le _
  case h_9 => exact Timer.afterEdge_reloadDelay _ _ h
  all_goals exact h

/-- A byte write leaves a legal state legal. -/
theorem busWrite_legal {s : State} (h : Legal s) (a : Word) (v : Byte) : Legal (busWrite s a v) where
  flagsLow := by rw [busWrite_cpu]; exact h.flagsLow
  memCanonical := busWrite_wf s h.memCanonical a v
  romCanonical := by rw [busWrite_cart]; exact h.romCanonical
  memBacked := busWrite_backed s h.memBacked a v
  romBacked := by rw [busWrite_cart]; exact h.romBacked
  ppuInBudget := (busWrite_ppu_legal s a v h.ppuInBudget h.ppuOff).1
  ppuOff := (busWrite_ppu_legal s a v h.ppuInBudget h.ppuOff).2
  reloadWindow := busWrite_reloadDelay s a v h.reloadWindow

/-- An instruction leaves a legal state legal. -/
theorem Effect.legal {s t : State} (he : Effect s t) (h : Legal s) : Legal t := by
  induction he with
  | start => exact h
  | cpu t c _ hc ih => exact Legal.of_eq ih (hc ih.flagsLow) rfl rfl rfl rfl
  | write t a v _ ih => exact busWrite_legal ih a v
  | enables t b p _ ih => exact Legal.of_eq ih ih.flagsLow rfl rfl rfl rfl
  | took t n _ ih => exact Legal.of_eq ih ih.flagsLow rfl rfl rfl rfl

/-- `push16` leaves a legal state legal. -/
theorem push16_legal {s : State} (h : Legal s) (v : Word) : Legal (push16 s v) :=
  Effect.legal (.push16 v .start) h

/-- An interrupt dispatch leaves a legal state legal. -/
theorem dispatch_legal {s : State} (h : Legal s) (k : IrqKind) : Legal (dispatch s k) := by
  unfold dispatch
  refine Effect.legal (.took _ _ (.withPc _ (.push16 _ .start))) (Legal.of_eq h h.flagsLow rfl rfl rfl rfl)

/-- The timer leaves a legal state legal. -/
theorem timerStep_legal {s : State} (h : Legal s) (n : Nat) : Legal (timerStep n s) := by
  have hr := timerStep_reloadDelay n s h.reloadWindow
  obtain ⟨t, i, ht⟩ := timerStep_eq n s
  rw [ht] at hr ⊢
  exact { h with reloadWindow := hr }

/-- The PPU leaves a legal state legal. -/
theorem ppuStep_legal {s : State} (h : Legal s) (n : Nat) : Legal (ppuStep n s) := by
  unfold ppuStep
  dsimp only
  split
  · rename_i hon
    obtain ⟨hb, hl⟩ := ppuTicks_inBudget n { s with frame := none } h.ppuInBudget
    obtain ⟨p, i, f, hp⟩ := ppuTicks_eq n { s with frame := none }
    rw [hp] at hb hl ⊢
    refine { h with ppuInBudget := hb, ppuOff := fun hoff => ?_ }
    dsimp only at hl hoff
    rw [hl, hon] at hoff
    exact absurd hoff (by simp)
  · exact Legal.of_eq h h.flagsLow rfl rfl rfl rfl

/-- The device part of a step leaves a legal state legal. -/
theorem advanceDevices_legal {s : State} (h : Legal s) : Legal (advanceDevices s) :=
  ppuStep_legal (timerStep_legal h _) _

/-- The joypad event leaves a legal state legal. -/
theorem takeInput_legal {s : State} (h : Legal s) : Legal (takeInput s) := by
  unfold takeInput pressButtons
  exact Legal.of_eq h (by simpa using h.flagsLow) (by simp) (by simp) (by simp) (by simp)

end Sys2Proof.Laws
end

