-- ==== Sys2Proof/Laws/Meanings.lean ====
section
/-! SUPPORT. The shared operations of the meanings that compute a value with its flags, each as the one state it answers, so
that a proof cites the equation and does not take the pair apart. -/

namespace Sys2Proof.Machine

variable (s : State)

theorem aluA_eq (op : AluOp) (v : Byte) (n : Nat) : aluA op v n s =
    .next (((s.withFlags (alu op s.cpu.a v s.flagC).2).withA (alu op s.cpu.a v s.flagC).1).took n) := rfl

theorem incR8_eq (r : R8) (n : Nat) : incR8 r n s =
    .next ((writeR8 (s.withFlags (incFlags (readR8 s r) s.flagC).2) r (incFlags (readR8 s r) s.flagC).1).took n) := rfl

theorem decR8_eq (r : R8) (n : Nat) : decR8 r n s =
    .next ((writeR8 (s.withFlags (decFlags (readR8 s r) s.flagC).2) r (decFlags (readR8 s r) s.flagC).1).took n) := rfl

theorem adjustA_eq : adjustA s =
    .next (((s.withFlags (daaFlags s.cpu.a s.flagN s.flagH s.flagC).2).withA
      (daaFlags s.cpu.a s.flagN s.flagH s.flagC).1).took 4) := rfl

theorem loadHlSpOffset_eq (n : Byte) : loadHlSpOffset n s =
    .next (((s.withFlags (spOffsetFlags s.cpu.sp n).2).withHl (spOffsetFlags s.cpu.sp n).1).took 12) := rfl

theorem addSpOffset_eq (n : Byte) : addSpOffset n s =
    .next (((s.withFlags (spOffsetFlags s.cpu.sp n).2).withSp (spOffsetFlags s.cpu.sp n).1).took 16) := rfl

theorem addHl_eq (r : R16) : addHl r s =
    .next (((s.withFlags (addHlFlags s.hl (readR16 s r) s.flagZ).2).withHl
      (addHlFlags s.hl (readR16 s r) s.flagZ).1).took 8) := rfl

theorem rotateA_eq (op : RotOp) : rotateA op s =
    .next (((s.withFlags { z := false, n := false, h := false, c := (rotate op s.cpu.a s.flagC).2 }).withA
      (rotate op s.cpu.a s.flagC).1).took 4) := rfl

theorem rotateR8_eq (op : RotOp) (r : R8) (n : Nat) : rotateR8 op r n s =
    .next ((writeR8 (s.withFlags (rotateFlags op (readR8 s r) s.flagC).2) r
      (rotateFlags op (readR8 s r) s.flagC).1).took n) := rfl

/-- A write of `r8[r]` leaves F, SP, PC, the halted and stopped states and the interrupt enables alone. -/
theorem writeR8_kept (r : R8) (v : Byte) :
    (writeR8 s r v).cpu.f = s.cpu.f ∧ (writeR8 s r v).cpu.sp = s.cpu.sp ∧ (writeR8 s r v).cpu.pc = s.cpu.pc ∧
      (writeR8 s r v).cpu.halted = s.cpu.halted ∧ (writeR8 s r v).cpu.stopped = s.cpu.stopped ∧
      (writeR8 s r v).irq.ime = s.irq.ime ∧ (writeR8 s r v).irq.imePending = s.irq.imePending := by
  cases r
  case indHl => simp [writeR8]
  all_goals exact ⟨rfl, rfl, rfl, rfl, rfl, rfl, rfl⟩

end Sys2Proof.Machine
end

