-- ==== Sys2Proof/Laws/PerInstr.lean ====
section
/-! SUPPORT. One lemma per constructor of Instr: the bytes of a whole instruction are as many as its first byte says, one to
three (30_encoding R120). -/

namespace Sys2Proof.Laws

open Sys2Proof.Machine

/-- The bytes of a whole instruction are as many as its first byte says (30_encoding R120). -/
def EncodedLength.Statement (i : Instr) : Prop :=
  i.wellFormed = true →
    (encode i).length = instrLength ((encode i).headD 0) ∧ 1 ≤ (encode i).length ∧ (encode i).length ≤ 3

namespace EncodedLength

/-- From the first byte and the bytes after it. -/
theorem of_bytes (i : Instr) (op : Byte) (rest : List Byte) (n : Nat) (h : encode i = op :: rest) (hn : rest.length = n)
    (hl : instrLength op = n + 1) (h3 : n ≤ 2) : Statement i := by
  intro _
  subst hn
  rw [h]
  exact ⟨hl.symm, Nat.succ_le_succ (Nat.zero_le _), Nat.succ_le_succ h3⟩

theorem ldBcD16 (d16 : Word) : Statement (.ldBcD16 d16) := of_bytes _ 0x01 [loByte d16, hiByte d16] 2 rfl rfl (by decide) (by decide)
theorem ldBD8 (d8 : Byte) : Statement (.ldBD8 d8) := of_bytes _ 0x06 [d8] 1 rfl rfl (by decide) (by decide)
theorem ldIndA16Sp (a16 : Word) : Statement (.ldIndA16Sp a16) := of_bytes _ 0x08 [loByte a16, hiByte a16] 2 rfl rfl (by decide) (by decide)
theorem ldCD8 (d8 : Byte) : Statement (.ldCD8 d8) := of_bytes _ 0x0E [d8] 1 rfl rfl (by decide) (by decide)
theorem stop (pad : Byte) : Statement (.stop pad) := of_bytes _ 0x10 [pad] 1 rfl rfl (by decide) (by decide)
theorem ldDeD16 (d16 : Word) : Statement (.ldDeD16 d16) := of_bytes _ 0x11 [loByte d16, hiByte d16] 2 rfl rfl (by decide) (by decide)
theorem ldDD8 (d8 : Byte) : Statement (.ldDD8 d8) := of_bytes _ 0x16 [d8] 1 rfl rfl (by decide) (by decide)
theorem jrE8 (e8 : Byte) : Statement (.jrE8 e8) := of_bytes _ 0x18 [e8] 1 rfl rfl (by decide) (by decide)
theorem ldED8 (d8 : Byte) : Statement (.ldED8 d8) := of_bytes _ 0x1E [d8] 1 rfl rfl (by decide) (by decide)
theorem jrNzE8 (e8 : Byte) : Statement (.jrNzE8 e8) := of_bytes _ 0x20 [e8] 1 rfl rfl (by decide) (by decide)
theorem ldHlD16 (d16 : Word) : Statement (.ldHlD16 d16) := of_bytes _ 0x21 [loByte d16, hiByte d16] 2 rfl rfl (by decide) (by decide)
theorem ldHD8 (d8 : Byte) : Statement (.ldHD8 d8) := of_bytes _ 0x26 [d8] 1 rfl rfl (by decide) (by decide)
theorem jrZE8 (e8 : Byte) : Statement (.jrZE8 e8) := of_bytes _ 0x28 [e8] 1 rfl rfl (by decide) (by decide)
theorem ldLD8 (d8 : Byte) : Statement (.ldLD8 d8) := of_bytes _ 0x2E [d8] 1 rfl rfl (by decide) (by decide)
theorem jrNcE8 (e8 : Byte) : Statement (.jrNcE8 e8) := of_bytes _ 0x30 [e8] 1 rfl rfl (by decide) (by decide)
theorem ldSpD16 (d16 : Word) : Statement (.ldSpD16 d16) := of_bytes _ 0x31 [loByte d16, hiByte d16] 2 rfl rfl (by decide) (by decide)
theorem ldIndHlD8 (d8 : Byte) : Statement (.ldIndHlD8 d8) := of_bytes _ 0x36 [d8] 1 rfl rfl (by decide) (by decide)
theorem jrCE8 (e8 : Byte) : Statement (.jrCE8 e8) := of_bytes _ 0x38 [e8] 1 rfl rfl (by decide) (by decide)
theorem ldAD8 (d8 : Byte) : Statement (.ldAD8 d8) := of_bytes _ 0x3E [d8] 1 rfl rfl (by decide) (by decide)
theorem jpNzA16 (a16 : Word) : Statement (.jpNzA16 a16) := of_bytes _ 0xC2 [loByte a16, hiByte a16] 2 rfl rfl (by decide) (by decide)
theorem jpA16 (a16 : Word) : Statement (.jpA16 a16) := of_bytes _ 0xC3 [loByte a16, hiByte a16] 2 rfl rfl (by decide) (by decide)
theorem callNzA16 (a16 : Word) : Statement (.callNzA16 a16) := of_bytes _ 0xC4 [loByte a16, hiByte a16] 2 rfl rfl (by decide) (by decide)
theorem addAD8 (d8 : Byte) : Statement (.addAD8 d8) := of_bytes _ 0xC6 [d8] 1 rfl rfl (by decide) (by decide)
theorem jpZA16 (a16 : Word) : Statement (.jpZA16 a16) := of_bytes _ 0xCA [loByte a16, hiByte a16] 2 rfl rfl (by decide) (by decide)
theorem callZA16 (a16 : Word) : Statement (.callZA16 a16) := of_bytes _ 0xCC [loByte a16, hiByte a16] 2 rfl rfl (by decide) (by decide)
theorem callA16 (a16 : Word) : Statement (.callA16 a16) := of_bytes _ 0xCD [loByte a16, hiByte a16] 2 rfl rfl (by decide) (by decide)
theorem adcAD8 (d8 : Byte) : Statement (.adcAD8 d8) := of_bytes _ 0xCE [d8] 1 rfl rfl (by decide) (by decide)
theorem jpNcA16 (a16 : Word) : Statement (.jpNcA16 a16) := of_bytes _ 0xD2 [loByte a16, hiByte a16] 2 rfl rfl (by decide) (by decide)
theorem callNcA16 (a16 : Word) : Statement (.callNcA16 a16) := of_bytes _ 0xD4 [loByte a16, hiByte a16] 2 rfl rfl (by decide) (by decide)
theorem subD8 (d8 : Byte) : Statement (.subD8 d8) := of_bytes _ 0xD6 [d8] 1 rfl rfl (by decide) (by decide)
theorem jpCA16 (a16 : Word) : Statement (.jpCA16 a16) := of_bytes _ 0xDA [loByte a16, hiByte a16] 2 rfl rfl (by decide) (by decide)
theorem callCA16 (a16 : Word) : Statement (.callCA16 a16) := of_bytes _ 0xDC [loByte a16, hiByte a16] 2 rfl rfl (by decide) (by decide)
theorem sbcAD8 (d8 : Byte) : Statement (.sbcAD8 d8) := of_bytes _ 0xDE [d8] 1 rfl rfl (by decide) (by decide)
theorem ldhIndA8A (a8 : Byte) : Statement (.ldhIndA8A a8) := of_bytes _ 0xE0 [a8] 1 rfl rfl (by decide) (by decide)
theorem andD8 (d8 : Byte) : Statement (.andD8 d8) := of_bytes _ 0xE6 [d8] 1 rfl rfl (by decide) (by decide)
theorem addSpE8 (e8 : Byte) : Statement (.addSpE8 e8) := of_bytes _ 0xE8 [e8] 1 rfl rfl (by decide) (by decide)
theorem ldIndA16A (a16 : Word) : Statement (.ldIndA16A a16) := of_bytes _ 0xEA [loByte a16, hiByte a16] 2 rfl rfl (by decide) (by decide)
theorem xorD8 (d8 : Byte) : Statement (.xorD8 d8) := of_bytes _ 0xEE [d8] 1 rfl rfl (by decide) (by decide)
theorem ldhAIndA8 (a8 : Byte) : Statement (.ldhAIndA8 a8) := of_bytes _ 0xF0 [a8] 1 rfl rfl (by decide) (by decide)
theorem orD8 (d8 : Byte) : Statement (.orD8 d8) := of_bytes _ 0xF6 [d8] 1 rfl rfl (by decide) (by decide)
theorem ldHlSpE8 (e8 : Byte) : Statement (.ldHlSpE8 e8) := of_bytes _ 0xF8 [e8] 1 rfl rfl (by decide) (by decide)
theorem ldAIndA16 (a16 : Word) : Statement (.ldAIndA16 a16) := of_bytes _ 0xFA [loByte a16, hiByte a16] 2 rfl rfl (by decide) (by decide)
theorem cpD8 (d8 : Byte) : Statement (.cpD8 d8) := of_bytes _ 0xFE [d8] 1 rfl rfl (by decide) (by decide)
theorem nop : Statement .nop := of_bytes _ 0x00 [] 0 rfl rfl (by decide) (by decide)
theorem ldIndBcA : Statement .ldIndBcA := of_bytes _ 0x02 [] 0 rfl rfl (by decide) (by decide)
theorem incBc : Statement .incBc := of_bytes _ 0x03 [] 0 rfl rfl (by decide) (by decide)
theorem incB : Statement .incB := of_bytes _ 0x04 [] 0 rfl rfl (by decide) (by decide)
theorem decB : Statement .decB := of_bytes _ 0x05 [] 0 rfl rfl (by decide) (by decide)
theorem rlca : Statement .rlca := of_bytes _ 0x07 [] 0 rfl rfl (by decide) (by decide)
theorem addHlBc : Statement .addHlBc := of_bytes _ 0x09 [] 0 rfl rfl (by decide) (by decide)
theorem ldAIndBc : Statement .ldAIndBc := of_bytes _ 0x0A [] 0 rfl rfl (by decide) (by decide)
theorem decBc : Statement .decBc := of_bytes _ 0x0B [] 0 rfl rfl (by decide) (by decide)
theorem incC : Statement .incC := of_bytes _ 0x0C [] 0 rfl rfl (by decide) (by decide)
theorem decC : Statement .decC := of_bytes _ 0x0D [] 0 rfl rfl (by decide) (by decide)
theorem rrca : Statement .rrca := of_bytes _ 0x0F [] 0 rfl rfl (by decide) (by decide)
theorem ldIndDeA : Statement .ldIndDeA := of_bytes _ 0x12 [] 0 rfl rfl (by decide) (by decide)
theorem incDe : Statement .incDe := of_bytes _ 0x13 [] 0 rfl rfl (by decide) (by decide)
theorem incD : Statement .incD := of_bytes _ 0x14 [] 0 rfl rfl (by decide) (by decide)
theorem decD : Statement .decD := of_bytes _ 0x15 [] 0 rfl rfl (by decide) (by decide)
theorem rla : Statement .rla := of_bytes _ 0x17 [] 0 rfl rfl (by decide) (by decide)
theorem addHlDe : Statement .addHlDe := of_bytes _ 0x19 [] 0 rfl rfl (by decide) (by decide)
theorem ldAIndDe : Statement .ldAIndDe := of_bytes _ 0x1A [] 0 rfl rfl (by decide) (by decide)
theorem decDe : Statement .decDe := of_bytes _ 0x1B [] 0 rfl rfl (by decide) (by decide)
theorem incE : Statement .incE := of_bytes _ 0x1C [] 0 rfl rfl (by decide) (by decide)
theorem decE : Statement .decE := of_bytes _ 0x1D [] 0 rfl rfl (by decide) (by decide)
theorem rra : Statement .rra := of_bytes _ 0x1F [] 0 rfl rfl (by decide) (by decide)
theorem ldIndHlIncA : Statement .ldIndHlIncA := of_bytes _ 0x22 [] 0 rfl rfl (by decide) (by decide)
theorem incHl : Statement .incHl := of_bytes _ 0x23 [] 0 rfl rfl (by decide) (by decide)
theorem incH : Statement .incH := of_bytes _ 0x24 [] 0 rfl rfl (by decide) (by decide)
theorem decH : Statement .decH := of_bytes _ 0x25 [] 0 rfl rfl (by decide) (by decide)
theorem daa : Statement .daa := of_bytes _ 0x27 [] 0 rfl rfl (by decide) (by decide)
theorem addHlHl : Statement .addHlHl := of_bytes _ 0x29 [] 0 rfl rfl (by decide) (by decide)
theorem ldAIndHlInc : Statement .ldAIndHlInc := of_bytes _ 0x2A [] 0 rfl rfl (by decide) (by decide)
theorem decHl : Statement .decHl := of_bytes _ 0x2B [] 0 rfl rfl (by decide) (by decide)
theorem incL : Statement .incL := of_bytes _ 0x2C [] 0 rfl rfl (by decide) (by decide)
theorem decL : Statement .decL := of_bytes _ 0x2D [] 0 rfl rfl (by decide) (by decide)
theorem cpl : Statement .cpl := of_bytes _ 0x2F [] 0 rfl rfl (by decide) (by decide)
theorem ldIndHlDecA : Statement .ldIndHlDecA := of_bytes _ 0x32 [] 0 rfl rfl (by decide) (by decide)
theorem incSp : Statement .incSp := of_bytes _ 0x33 [] 0 rfl rfl (by decide) (by decide)
theorem incIndHl : Statement .incIndHl := of_bytes _ 0x34 [] 0 rfl rfl (by decide) (by decide)
theorem decIndHl : Statement .decIndHl := of_bytes _ 0x35 [] 0 rfl rfl (by decide) (by decide)
theorem scf : Statement .scf := of_bytes _ 0x37 [] 0 rfl rfl (by decide) (by decide)
theorem addHlSp : Statement .addHlSp := of_bytes _ 0x39 [] 0 rfl rfl (by decide) (by decide)
theorem ldAIndHlDec : Statement .ldAIndHlDec := of_bytes _ 0x3A [] 0 rfl rfl (by decide) (by decide)
theorem decSp : Statement .decSp := of_bytes _ 0x3B [] 0 rfl rfl (by decide) (by decide)
theorem incA : Statement .incA := of_bytes _ 0x3C [] 0 rfl rfl (by decide) (by decide)
theorem decA : Statement .decA := of_bytes _ 0x3D [] 0 rfl rfl (by decide) (by decide)
theorem ccf : Statement .ccf := of_bytes _ 0x3F [] 0 rfl rfl (by decide) (by decide)
theorem ldBB : Statement .ldBB := of_bytes _ 0x40 [] 0 rfl rfl (by decide) (by decide)
theorem ldBC : Statement .ldBC := of_bytes _ 0x41 [] 0 rfl rfl (by decide) (by decide)
theorem ldBD : Statement .ldBD := of_bytes _ 0x42 [] 0 rfl rfl (by decide) (by decide)
theorem ldBE : Statement .ldBE := of_bytes _ 0x43 [] 0 rfl rfl (by decide) (by decide)
theorem ldBH : Statement .ldBH := of_bytes _ 0x44 [] 0 rfl rfl (by decide) (by decide)
theorem ldBL : Statement .ldBL := of_bytes _ 0x45 [] 0 rfl rfl (by decide) (by decide)
theorem ldBIndHl : Statement .ldBIndHl := of_bytes _ 0x46 [] 0 rfl rfl (by decide) (by decide)
theorem ldBA : Statement .ldBA := of_bytes _ 0x47 [] 0 rfl rfl (by decide) (by decide)
theorem ldCB : Statement .ldCB := of_bytes _ 0x48 [] 0 rfl rfl (by decide) (by decide)
theorem ldCC : Statement .ldCC := of_bytes _ 0x49 [] 0 rfl rfl (by decide) (by decide)
theorem ldCD : Statement .ldCD := of_bytes _ 0x4A [] 0 rfl rfl (by decide) (by decide)
theorem ldCE : Statement .ldCE := of_bytes _ 0x4B [] 0 rfl rfl (by decide) (by decide)
theorem ldCH : Statement .ldCH := of_bytes _ 0x4C [] 0 rfl rfl (by decide) (by decide)
theorem ldCL : Statement .ldCL := of_bytes _ 0x4D [] 0 rfl rfl (by decide) (by decide)
theorem ldCIndHl : Statement .ldCIndHl := of_bytes _ 0x4E [] 0 rfl rfl (by decide) (by decide)
theorem ldCA : Statement .ldCA := of_bytes _ 0x4F [] 0 rfl rfl (by decide) (by decide)
theorem ldDB : Statement .ldDB := of_bytes _ 0x50 [] 0 rfl rfl (by decide) (by decide)
theorem ldDC : Statement .ldDC := of_bytes _ 0x51 [] 0 rfl rfl (by decide) (by decide)
theorem ldDD : Statement .ldDD := of_bytes _ 0x52 [] 0 rfl rfl (by decide) (by decide)
theorem ldDE : Statement .ldDE := of_bytes _ 0x53 [] 0 rfl rfl (by decide) (by decide)
theorem ldDH : Statement .ldDH := of_bytes _ 0x54 [] 0 rfl rfl (by decide) (by decide)
theorem ldDL : Statement .ldDL := of_bytes _ 0x55 [] 0 rfl rfl (by decide) (by decide)
theorem ldDIndHl : Statement .ldDIndHl := of_bytes _ 0x56 [] 0 rfl rfl (by decide) (by decide)
theorem ldDA : Statement .ldDA := of_bytes _ 0x57 [] 0 rfl rfl (by decide) (by decide)
theorem ldEB : Statement .ldEB := of_bytes _ 0x58 [] 0 rfl rfl (by decide) (by decide)
theorem ldEC : Statement .ldEC := of_bytes _ 0x59 [] 0 rfl rfl (by decide) (by decide)
theorem ldED : Statement .ldED := of_bytes _ 0x5A [] 0 rfl rfl (by decide) (by decide)
theorem ldEE : Statement .ldEE := of_bytes _ 0x5B [] 0 rfl rfl (by decide) (by decide)
theorem ldEH : Statement .ldEH := of_bytes _ 0x5C [] 0 rfl rfl (by decide) (by decide)
theorem ldEL : Statement .ldEL := of_bytes _ 0x5D [] 0 rfl rfl (by decide) (by decide)
theorem ldEIndHl : Statement .ldEIndHl := of_bytes _ 0x5E [] 0 rfl rfl (by decide) (by decide)
theorem ldEA : Statement .ldEA := of_bytes _ 0x5F [] 0 rfl rfl (by decide) (by decide)
theorem ldHB : Statement .ldHB := of_bytes _ 0x60 [] 0 rfl rfl (by decide) (by decide)
theorem ldHC : Statement .ldHC := of_bytes _ 0x61 [] 0 rfl rfl (by decide) (by decide)
theorem ldHD : Statement .ldHD := of_bytes _ 0x62 [] 0 rfl rfl (by decide) (by decide)
theorem ldHE : Statement .ldHE := of_bytes _ 0x63 [] 0 rfl rfl (by decide) (by decide)
theorem ldHH : Statement .ldHH := of_bytes _ 0x64 [] 0 rfl rfl (by decide) (by decide)
theorem ldHL : Statement .ldHL := of_bytes _ 0x65 [] 0 rfl rfl (by decide) (by decide)
theorem ldHIndHl : Statement .ldHIndHl := of_bytes _ 0x66 [] 0 rfl rfl (by decide) (by decide)
theorem ldHA : Statement .ldHA := of_bytes _ 0x67 [] 0 rfl rfl (by decide) (by decide)
theorem ldLB : Statement .ldLB := of_bytes _ 0x68 [] 0 rfl rfl (by decide) (by decide)
theorem ldLC : Statement .ldLC := of_bytes _ 0x69 [] 0 rfl rfl (by decide) (by decide)
theorem ldLD : Statement .ldLD := of_bytes _ 0x6A [] 0 rfl rfl (by decide) (by decide)
theorem ldLE : Statement .ldLE := of_bytes _ 0x6B [] 0 rfl rfl (by decide) (by decide)
theorem ldLH : Statement .ldLH := of_bytes _ 0x6C [] 0 rfl rfl (by decide) (by decide)
theorem ldLL : Statement .ldLL := of_bytes _ 0x6D [] 0 rfl rfl (by decide) (by decide)
theorem ldLIndHl : Statement .ldLIndHl := of_bytes _ 0x6E [] 0 rfl rfl (by decide) (by decide)
theorem ldLA : Statement .ldLA := of_bytes _ 0x6F [] 0 rfl rfl (by decide) (by decide)
theorem ldIndHlB : Statement .ldIndHlB := of_bytes _ 0x70 [] 0 rfl rfl (by decide) (by decide)
theorem ldIndHlC : Statement .ldIndHlC := of_bytes _ 0x71 [] 0 rfl rfl (by decide) (by decide)
theorem ldIndHlD : Statement .ldIndHlD := of_bytes _ 0x72 [] 0 rfl rfl (by decide) (by decide)
theorem ldIndHlE : Statement .ldIndHlE := of_bytes _ 0x73 [] 0 rfl rfl (by decide) (by decide)
theorem ldIndHlH : Statement .ldIndHlH := of_bytes _ 0x74 [] 0 rfl rfl (by decide) (by decide)
theorem ldIndHlL : Statement .ldIndHlL := of_bytes _ 0x75 [] 0 rfl rfl (by decide) (by decide)
theorem halt : Statement .halt := of_bytes _ 0x76 [] 0 rfl rfl (by decide) (by decide)
theorem ldIndHlA : Statement .ldIndHlA := of_bytes _ 0x77 [] 0 rfl rfl (by decide) (by decide)
theorem ldAB : Statement .ldAB := of_bytes _ 0x78 [] 0 rfl rfl (by decide) (by decide)
theorem ldAC : Statement .ldAC := of_bytes _ 0x79 [] 0 rfl rfl (by decide) (by decide)
theorem ldAD : Statement .ldAD := of_bytes _ 0x7A [] 0 rfl rfl (by decide) (by decide)
theorem ldAE : Statement .ldAE := of_bytes _ 0x7B [] 0 rfl rfl (by decide) (by decide)
theorem ldAH : Statement .ldAH := of_bytes _ 0x7C [] 0 rfl rfl (by decide) (by decide)
theorem ldAL : Statement .ldAL := of_bytes _ 0x7D [] 0 rfl rfl (by decide) (by decide)
theorem ldAIndHl : Statement .ldAIndHl := of_bytes _ 0x7E [] 0 rfl rfl (by decide) (by decide)
theorem ldAA : Statement .ldAA := of_bytes _ 0x7F [] 0 rfl rfl (by decide) (by decide)
theorem addAB : Statement .addAB := of_bytes _ 0x80 [] 0 rfl rfl (by decide) (by decide)
theorem addAC : Statement .addAC := of_bytes _ 0x81 [] 0 rfl rfl (by decide) (by decide)
theorem addAD : Statement .addAD := of_bytes _ 0x82 [] 0 rfl rfl (by decide) (by decide)
theorem addAE : Statement .addAE := of_bytes _ 0x83 [] 0 rfl rfl (by decide) (by decide)
theorem addAH : Statement .addAH := of_bytes _ 0x84 [] 0 rfl rfl (by decide) (by decide)
theorem addAL : Statement .addAL := of_bytes _ 0x85 [] 0 rfl rfl (by decide) (by decide)
theorem addAIndHl : Statement .addAIndHl := of_bytes _ 0x86 [] 0 rfl rfl (by decide) (by decide)
theorem addAA : Statement .addAA := of_bytes _ 0x87 [] 0 rfl rfl (by decide) (by decide)
theorem adcAB : Statement .adcAB := of_bytes _ 0x88 [] 0 rfl rfl (by decide) (by decide)
theorem adcAC : Statement .adcAC := of_bytes _ 0x89 [] 0 rfl rfl (by decide) (by decide)
theorem adcAD : Statement .adcAD := of_bytes _ 0x8A [] 0 rfl rfl (by decide) (by decide)
theorem adcAE : Statement .adcAE := of_bytes _ 0x8B [] 0 rfl rfl (by decide) (by decide)
theorem adcAH : Statement .adcAH := of_bytes _ 0x8C [] 0 rfl rfl (by decide) (by decide)
theorem adcAL : Statement .adcAL := of_bytes _ 0x8D [] 0 rfl rfl (by decide) (by decide)
theorem adcAIndHl : Statement .adcAIndHl := of_bytes _ 0x8E [] 0 rfl rfl (by decide) (by decide)
theorem adcAA : Statement .adcAA := of_bytes _ 0x8F [] 0 rfl rfl (by decide) (by decide)
theorem subB : Statement .subB := of_bytes _ 0x90 [] 0 rfl rfl (by decide) (by decide)
theorem subC : Statement .subC := of_bytes _ 0x91 [] 0 rfl rfl (by decide) (by decide)
theorem subD : Statement .subD := of_bytes _ 0x92 [] 0 rfl rfl (by decide) (by decide)
theorem subE : Statement .subE := of_bytes _ 0x93 [] 0 rfl rfl (by decide) (by decide)
theorem subH : Statement .subH := of_bytes _ 0x94 [] 0 rfl rfl (by decide) (by decide)
theorem subL : Statement .subL := of_bytes _ 0x95 [] 0 rfl rfl (by decide) (by decide)
theorem subIndHl : Statement .subIndHl := of_bytes _ 0x96 [] 0 rfl rfl (by decide) (by decide)
theorem subA : Statement .subA := of_bytes _ 0x97 [] 0 rfl rfl (by decide) (by decide)
theorem sbcAB : Statement .sbcAB := of_bytes _ 0x98 [] 0 rfl rfl (by decide) (by decide)
theorem sbcAC : Statement .sbcAC := of_bytes _ 0x99 [] 0 rfl rfl (by decide) (by decide)
theorem sbcAD : Statement .sbcAD := of_bytes _ 0x9A [] 0 rfl rfl (by decide) (by decide)
theorem sbcAE : Statement .sbcAE := of_bytes _ 0x9B [] 0 rfl rfl (by decide) (by decide)
theorem sbcAH : Statement .sbcAH := of_bytes _ 0x9C [] 0 rfl rfl (by decide) (by decide)
theorem sbcAL : Statement .sbcAL := of_bytes _ 0x9D [] 0 rfl rfl (by decide) (by decide)
theorem sbcAIndHl : Statement .sbcAIndHl := of_bytes _ 0x9E [] 0 rfl rfl (by decide) (by decide)
theorem sbcAA : Statement .sbcAA := of_bytes _ 0x9F [] 0 rfl rfl (by decide) (by decide)
theorem andB : Statement .andB := of_bytes _ 0xA0 [] 0 rfl rfl (by decide) (by decide)
theorem andC : Statement .andC := of_bytes _ 0xA1 [] 0 rfl rfl (by decide) (by decide)
theorem andD : Statement .andD := of_bytes _ 0xA2 [] 0 rfl rfl (by decide) (by decide)
theorem andE : Statement .andE := of_bytes _ 0xA3 [] 0 rfl rfl (by decide) (by decide)
theorem andH : Statement .andH := of_bytes _ 0xA4 [] 0 rfl rfl (by decide) (by decide)
theorem andL : Statement .andL := of_bytes _ 0xA5 [] 0 rfl rfl (by decide) (by decide)
theorem andIndHl : Statement .andIndHl := of_bytes _ 0xA6 [] 0 rfl rfl (by decide) (by decide)
theorem andA : Statement .andA := of_bytes _ 0xA7 [] 0 rfl rfl (by decide) (by decide)
theorem xorB : Statement .xorB := of_bytes _ 0xA8 [] 0 rfl rfl (by decide) (by decide)
theorem xorC : Statement .xorC := of_bytes _ 0xA9 [] 0 rfl rfl (by decide) (by decide)
theorem xorD : Statement .xorD := of_bytes _ 0xAA [] 0 rfl rfl (by decide) (by decide)
theorem xorE : Statement .xorE := of_bytes _ 0xAB [] 0 rfl rfl (by decide) (by decide)
theorem xorH : Statement .xorH := of_bytes _ 0xAC [] 0 rfl rfl (by decide) (by decide)
theorem xorL : Statement .xorL := of_bytes _ 0xAD [] 0 rfl rfl (by decide) (by decide)
theorem xorIndHl : Statement .xorIndHl := of_bytes _ 0xAE [] 0 rfl rfl (by decide) (by decide)
theorem xorA : Statement .xorA := of_bytes _ 0xAF [] 0 rfl rfl (by decide) (by decide)
theorem orB : Statement .orB := of_bytes _ 0xB0 [] 0 rfl rfl (by decide) (by decide)
theorem orC : Statement .orC := of_bytes _ 0xB1 [] 0 rfl rfl (by decide) (by decide)
theorem orD : Statement .orD := of_bytes _ 0xB2 [] 0 rfl rfl (by decide) (by decide)
theorem orE : Statement .orE := of_bytes _ 0xB3 [] 0 rfl rfl (by decide) (by decide)
theorem orH : Statement .orH := of_bytes _ 0xB4 [] 0 rfl rfl (by decide) (by decide)
theorem orL : Statement .orL := of_bytes _ 0xB5 [] 0 rfl rfl (by decide) (by decide)
theorem orIndHl : Statement .orIndHl := of_bytes _ 0xB6 [] 0 rfl rfl (by decide) (by decide)
theorem orA : Statement .orA := of_bytes _ 0xB7 [] 0 rfl rfl (by decide) (by decide)
theorem cpB : Statement .cpB := of_bytes _ 0xB8 [] 0 rfl rfl (by decide) (by decide)
theorem cpC : Statement .cpC := of_bytes _ 0xB9 [] 0 rfl rfl (by decide) (by decide)
theorem cpD : Statement .cpD := of_bytes _ 0xBA [] 0 rfl rfl (by decide) (by decide)
theorem cpE : Statement .cpE := of_bytes _ 0xBB [] 0 rfl rfl (by decide) (by decide)
theorem cpH : Statement .cpH := of_bytes _ 0xBC [] 0 rfl rfl (by decide) (by decide)
theorem cpL : Statement .cpL := of_bytes _ 0xBD [] 0 rfl rfl (by decide) (by decide)
theorem cpIndHl : Statement .cpIndHl := of_bytes _ 0xBE [] 0 rfl rfl (by decide) (by decide)
theorem cpA : Statement .cpA := of_bytes _ 0xBF [] 0 rfl rfl (by decide) (by decide)
theorem retNz : Statement .retNz := of_bytes _ 0xC0 [] 0 rfl rfl (by decide) (by decide)
theorem popBc : Statement .popBc := of_bytes _ 0xC1 [] 0 rfl rfl (by decide) (by decide)
theorem pushBc : Statement .pushBc := of_bytes _ 0xC5 [] 0 rfl rfl (by decide) (by decide)
theorem rst00 : Statement .rst00 := of_bytes _ 0xC7 [] 0 rfl rfl (by decide) (by decide)
theorem retZ : Statement .retZ := of_bytes _ 0xC8 [] 0 rfl rfl (by decide) (by decide)
theorem ret : Statement .ret := of_bytes _ 0xC9 [] 0 rfl rfl (by decide) (by decide)
theorem prefixCb : Statement .prefixCb := nofun
theorem rst08 : Statement .rst08 := of_bytes _ 0xCF [] 0 rfl rfl (by decide) (by decide)
theorem retNc : Statement .retNc := of_bytes _ 0xD0 [] 0 rfl rfl (by decide) (by decide)
theorem popDe : Statement .popDe := of_bytes _ 0xD1 [] 0 rfl rfl (by decide) (by decide)
theorem illegalD3 : Statement .illegalD3 := of_bytes _ 0xD3 [] 0 rfl rfl (by decide) (by decide)
theorem pushDe : Statement .pushDe := of_bytes _ 0xD5 [] 0 rfl rfl (by decide) (by decide)
theorem rst10 : Statement .rst10 := of_bytes _ 0xD7 [] 0 rfl rfl (by decide) (by decide)
theorem retC : Statement .retC := of_bytes _ 0xD8 [] 0 rfl rfl (by decide) (by decide)
theorem reti : Statement .reti := of_bytes _ 0xD9 [] 0 rfl rfl (by decide) (by decide)
theorem illegalDB : Statement .illegalDB := of_bytes _ 0xDB [] 0 rfl rfl (by decide) (by decide)
theorem illegalDD : Statement .illegalDD := of_bytes _ 0xDD [] 0 rfl rfl (by decide) (by decide)
theorem rst18 : Statement .rst18 := of_bytes _ 0xDF [] 0 rfl rfl (by decide) (by decide)
theorem popHl : Statement .popHl := of_bytes _ 0xE1 [] 0 rfl rfl (by decide) (by decide)
theorem ldhIndCA : Statement .ldhIndCA := of_bytes _ 0xE2 [] 0 rfl rfl (by decide) (by decide)
theorem illegalE3 : Statement .illegalE3 := of_bytes _ 0xE3 [] 0 rfl rfl (by decide) (by decide)
theorem illegalE4 : Statement .illegalE4 := of_bytes _ 0xE4 [] 0 rfl rfl (by decide) (by decide)
theorem pushHl : Statement .pushHl := of_bytes _ 0xE5 [] 0 rfl rfl (by decide) (by decide)
theorem rst20 : Statement .rst20 := of_bytes _ 0xE7 [] 0 rfl rfl (by decide) (by decide)
theorem jpHl : Statement .jpHl := of_bytes _ 0xE9 [] 0 rfl rfl (by decide) (by decide)
theorem illegalEB : Statement .illegalEB := of_bytes _ 0xEB [] 0 rfl rfl (by decide) (by decide)
theorem illegalEC : Statement .illegalEC := of_bytes _ 0xEC [] 0 rfl rfl (by decide) (by decide)
theorem illegalED : Statement .illegalED := of_bytes _ 0xED [] 0 rfl rfl (by decide) (by decide)
theorem rst28 : Statement .rst28 := of_bytes _ 0xEF [] 0 rfl rfl (by decide) (by decide)
theorem popAf : Statement .popAf := of_bytes _ 0xF1 [] 0 rfl rfl (by decide) (by decide)
theorem ldhAIndC : Statement .ldhAIndC := of_bytes _ 0xF2 [] 0 rfl rfl (by decide) (by decide)
theorem di : Statement .di := of_bytes _ 0xF3 [] 0 rfl rfl (by decide) (by decide)
theorem illegalF4 : Statement .illegalF4 := of_bytes _ 0xF4 [] 0 rfl rfl (by decide) (by decide)
theorem pushAf : Statement .pushAf := of_bytes _ 0xF5 [] 0 rfl rfl (by decide) (by decide)
theorem rst30 : Statement .rst30 := of_bytes _ 0xF7 [] 0 rfl rfl (by decide) (by decide)
theorem ldSpHl : Statement .ldSpHl := of_bytes _ 0xF9 [] 0 rfl rfl (by decide) (by decide)
theorem ei : Statement .ei := of_bytes _ 0xFB [] 0 rfl rfl (by decide) (by decide)
theorem illegalFC : Statement .illegalFC := of_bytes _ 0xFC [] 0 rfl rfl (by decide) (by decide)
theorem illegalFD : Statement .illegalFD := of_bytes _ 0xFD [] 0 rfl rfl (by decide) (by decide)
theorem rst38 : Statement .rst38 := of_bytes _ 0xFF [] 0 rfl rfl (by decide) (by decide)
theorem rlcB : Statement .rlcB := of_bytes _ 0xCB [0x00] 1 rfl rfl (by decide) (by decide)
theorem rlcC : Statement .rlcC := of_bytes _ 0xCB [0x01] 1 rfl rfl (by decide) (by decide)
theorem rlcD : Statement .rlcD := of_bytes _ 0xCB [0x02] 1 rfl rfl (by decide) (by decide)
theorem rlcE : Statement .rlcE := of_bytes _ 0xCB [0x03] 1 rfl rfl (by decide) (by decide)
theorem rlcH : Statement .rlcH := of_bytes _ 0xCB [0x04] 1 rfl rfl (by decide) (by decide)
theorem rlcL : Statement .rlcL := of_bytes _ 0xCB [0x05] 1 rfl rfl (by decide) (by decide)
theorem rlcIndHl : Statement .rlcIndHl := of_bytes _ 0xCB [0x06] 1 rfl rfl (by decide) (by decide)
theorem rlcA : Statement .rlcA := of_bytes _ 0xCB [0x07] 1 rfl rfl (by decide) (by decide)
theorem rrcB : Statement .rrcB := of_bytes _ 0xCB [0x08] 1 rfl rfl (by decide) (by decide)
theorem rrcC : Statement .rrcC := of_bytes _ 0xCB [0x09] 1 rfl rfl (by decide) (by decide)
theorem rrcD : Statement .rrcD := of_bytes _ 0xCB [0x0A] 1 rfl rfl (by decide) (by decide)
theorem rrcE : Statement .rrcE := of_bytes _ 0xCB [0x0B] 1 rfl rfl (by decide) (by decide)
theorem rrcH : Statement .rrcH := of_bytes _ 0xCB [0x0C] 1 rfl rfl (by decide) (by decide)
theorem rrcL : Statement .rrcL := of_bytes _ 0xCB [0x0D] 1 rfl rfl (by decide) (by decide)
theorem rrcIndHl : Statement .rrcIndHl := of_bytes _ 0xCB [0x0E] 1 rfl rfl (by decide) (by decide)
theorem rrcA : Statement .rrcA := of_bytes _ 0xCB [0x0F] 1 rfl rfl (by decide) (by decide)
theorem rlB : Statement .rlB := of_bytes _ 0xCB [0x10] 1 rfl rfl (by decide) (by decide)
theorem rlC : Statement .rlC := of_bytes _ 0xCB [0x11] 1 rfl rfl (by decide) (by decide)
theorem rlD : Statement .rlD := of_bytes _ 0xCB [0x12] 1 rfl rfl (by decide) (by decide)
theorem rlE : Statement .rlE := of_bytes _ 0xCB [0x13] 1 rfl rfl (by decide) (by decide)
theorem rlH : Statement .rlH := of_bytes _ 0xCB [0x14] 1 rfl rfl (by decide) (by decide)
theorem rlL : Statement .rlL := of_bytes _ 0xCB [0x15] 1 rfl rfl (by decide) (by decide)
theorem rlIndHl : Statement .rlIndHl := of_bytes _ 0xCB [0x16] 1 rfl rfl (by decide) (by decide)
theorem rlA : Statement .rlA := of_bytes _ 0xCB [0x17] 1 rfl rfl (by decide) (by decide)
theorem rrB : Statement .rrB := of_bytes _ 0xCB [0x18] 1 rfl rfl (by decide) (by decide)
theorem rrC : Statement .rrC := of_bytes _ 0xCB [0x19] 1 rfl rfl (by decide) (by decide)
theorem rrD : Statement .rrD := of_bytes _ 0xCB [0x1A] 1 rfl rfl (by decide) (by decide)
theorem rrE : Statement .rrE := of_bytes _ 0xCB [0x1B] 1 rfl rfl (by decide) (by decide)
theorem rrH : Statement .rrH := of_bytes _ 0xCB [0x1C] 1 rfl rfl (by decide) (by decide)
theorem rrL : Statement .rrL := of_bytes _ 0xCB [0x1D] 1 rfl rfl (by decide) (by decide)
theorem rrIndHl : Statement .rrIndHl := of_bytes _ 0xCB [0x1E] 1 rfl rfl (by decide) (by decide)
theorem rrA : Statement .rrA := of_bytes _ 0xCB [0x1F] 1 rfl rfl (by decide) (by decide)
theorem slaB : Statement .slaB := of_bytes _ 0xCB [0x20] 1 rfl rfl (by decide) (by decide)
theorem slaC : Statement .slaC := of_bytes _ 0xCB [0x21] 1 rfl rfl (by decide) (by decide)
theorem slaD : Statement .slaD := of_bytes _ 0xCB [0x22] 1 rfl rfl (by decide) (by decide)
theorem slaE : Statement .slaE := of_bytes _ 0xCB [0x23] 1 rfl rfl (by decide) (by decide)
theorem slaH : Statement .slaH := of_bytes _ 0xCB [0x24] 1 rfl rfl (by decide) (by decide)
theorem slaL : Statement .slaL := of_bytes _ 0xCB [0x25] 1 rfl rfl (by decide) (by decide)
theorem slaIndHl : Statement .slaIndHl := of_bytes _ 0xCB [0x26] 1 rfl rfl (by decide) (by decide)
theorem slaA : Statement .slaA := of_bytes _ 0xCB [0x27] 1 rfl rfl (by decide) (by decide)
theorem sraB : Statement .sraB := of_bytes _ 0xCB [0x28] 1 rfl rfl (by decide) (by decide)
theorem sraC : Statement .sraC := of_bytes _ 0xCB [0x29] 1 rfl rfl (by decide) (by decide)
theorem sraD : Statement .sraD := of_bytes _ 0xCB [0x2A] 1 rfl rfl (by decide) (by decide)
theorem sraE : Statement .sraE := of_bytes _ 0xCB [0x2B] 1 rfl rfl (by decide) (by decide)
theorem sraH : Statement .sraH := of_bytes _ 0xCB [0x2C] 1 rfl rfl (by decide) (by decide)
theorem sraL : Statement .sraL := of_bytes _ 0xCB [0x2D] 1 rfl rfl (by decide) (by decide)
theorem sraIndHl : Statement .sraIndHl := of_bytes _ 0xCB [0x2E] 1 rfl rfl (by decide) (by decide)
theorem sraA : Statement .sraA := of_bytes _ 0xCB [0x2F] 1 rfl rfl (by decide) (by decide)
theorem swapB : Statement .swapB := of_bytes _ 0xCB [0x30] 1 rfl rfl (by decide) (by decide)
theorem swapC : Statement .swapC := of_bytes _ 0xCB [0x31] 1 rfl rfl (by decide) (by decide)
theorem swapD : Statement .swapD := of_bytes _ 0xCB [0x32] 1 rfl rfl (by decide) (by decide)
theorem swapE : Statement .swapE := of_bytes _ 0xCB [0x33] 1 rfl rfl (by decide) (by decide)
theorem swapH : Statement .swapH := of_bytes _ 0xCB [0x34] 1 rfl rfl (by decide) (by decide)
theorem swapL : Statement .swapL := of_bytes _ 0xCB [0x35] 1 rfl rfl (by decide) (by decide)
theorem swapIndHl : Statement .swapIndHl := of_bytes _ 0xCB [0x36] 1 rfl rfl (by decide) (by decide)
theorem swapA : Statement .swapA := of_bytes _ 0xCB [0x37] 1 rfl rfl (by decide) (by decide)
theorem srlB : Statement .srlB := of_bytes _ 0xCB [0x38] 1 rfl rfl (by decide) (by decide)
theorem srlC : Statement .srlC := of_bytes _ 0xCB [0x39] 1 rfl rfl (by decide) (by decide)
theorem srlD : Statement .srlD := of_bytes _ 0xCB [0x3A] 1 rfl rfl (by decide) (by decide)
theorem srlE : Statement .srlE := of_bytes _ 0xCB [0x3B] 1 rfl rfl (by decide) (by decide)
theorem srlH : Statement .srlH := of_bytes _ 0xCB [0x3C] 1 rfl rfl (by decide) (by decide)
theorem srlL : Statement .srlL := of_bytes _ 0xCB [0x3D] 1 rfl rfl (by decide) (by decide)
theorem srlIndHl : Statement .srlIndHl := of_bytes _ 0xCB [0x3E] 1 rfl rfl (by decide) (by decide)
theorem srlA : Statement .srlA := of_bytes _ 0xCB [0x3F] 1 rfl rfl (by decide) (by decide)
theorem bit0B : Statement .bit0B := of_bytes _ 0xCB [0x40] 1 rfl rfl (by decide) (by decide)
theorem bit0C : Statement .bit0C := of_bytes _ 0xCB [0x41] 1 rfl rfl (by decide) (by decide)
theorem bit0D : Statement .bit0D := of_bytes _ 0xCB [0x42] 1 rfl rfl (by decide) (by decide)
theorem bit0E : Statement .bit0E := of_bytes _ 0xCB [0x43] 1 rfl rfl (by decide) (by decide)
theorem bit0H : Statement .bit0H := of_bytes _ 0xCB [0x44] 1 rfl rfl (by decide) (by decide)
theorem bit0L : Statement .bit0L := of_bytes _ 0xCB [0x45] 1 rfl rfl (by decide) (by decide)
theorem bit0IndHl : Statement .bit0IndHl := of_bytes _ 0xCB [0x46] 1 rfl rfl (by decide) (by decide)
theorem bit0A : Statement .bit0A := of_bytes _ 0xCB [0x47] 1 rfl rfl (by decide) (by decide)
theorem bit1B : Statement .bit1B := of_bytes _ 0xCB [0x48] 1 rfl rfl (by decide) (by decide)
theorem bit1C : Statement .bit1C := of_bytes _ 0xCB [0x49] 1 rfl rfl (by decide) (by decide)
theorem bit1D : Statement .bit1D := of_bytes _ 0xCB [0x4A] 1 rfl rfl (by decide) (by decide)
theorem bit1E : Statement .bit1E := of_bytes _ 0xCB [0x4B] 1 rfl rfl (by decide) (by decide)
theorem bit1H : Statement .bit1H := of_bytes _ 0xCB [0x4C] 1 rfl rfl (by decide) (by decide)
theorem bit1L : Statement .bit1L := of_bytes _ 0xCB [0x4D] 1 rfl rfl (by decide) (by decide)
theorem bit1IndHl : Statement .bit1IndHl := of_bytes _ 0xCB [0x4E] 1 rfl rfl (by decide) (by decide)
theorem bit1A : Statement .bit1A := of_bytes _ 0xCB [0x4F] 1 rfl rfl (by decide) (by decide)
theorem bit2B : Statement .bit2B := of_bytes _ 0xCB [0x50] 1 rfl rfl (by decide) (by decide)
theorem bit2C : Statement .bit2C := of_bytes _ 0xCB [0x51] 1 rfl rfl (by decide) (by decide)
theorem bit2D : Statement .bit2D := of_bytes _ 0xCB [0x52] 1 rfl rfl (by decide) (by decide)
theorem bit2E : Statement .bit2E := of_bytes _ 0xCB [0x53] 1 rfl rfl (by decide) (by decide)
theorem bit2H : Statement .bit2H := of_bytes _ 0xCB [0x54] 1 rfl rfl (by decide) (by decide)
theorem bit2L : Statement .bit2L := of_bytes _ 0xCB [0x55] 1 rfl rfl (by decide) (by decide)
theorem bit2IndHl : Statement .bit2IndHl := of_bytes _ 0xCB [0x56] 1 rfl rfl (by decide) (by decide)
theorem bit2A : Statement .bit2A := of_bytes _ 0xCB [0x57] 1 rfl rfl (by decide) (by decide)
theorem bit3B : Statement .bit3B := of_bytes _ 0xCB [0x58] 1 rfl rfl (by decide) (by decide)
theorem bit3C : Statement .bit3C := of_bytes _ 0xCB [0x59] 1 rfl rfl (by decide) (by decide)
theorem bit3D : Statement .bit3D := of_bytes _ 0xCB [0x5A] 1 rfl rfl (by decide) (by decide)
theorem bit3E : Statement .bit3E := of_bytes _ 0xCB [0x5B] 1 rfl rfl (by decide) (by decide)
theorem bit3H : Statement .bit3H := of_bytes _ 0xCB [0x5C] 1 rfl rfl (by decide) (by decide)
theorem bit3L : Statement .bit3L := of_bytes _ 0xCB [0x5D] 1 rfl rfl (by decide) (by decide)
theorem bit3IndHl : Statement .bit3IndHl := of_bytes _ 0xCB [0x5E] 1 rfl rfl (by decide) (by decide)
theorem bit3A : Statement .bit3A := of_bytes _ 0xCB [0x5F] 1 rfl rfl (by decide) (by decide)
theorem bit4B : Statement .bit4B := of_bytes _ 0xCB [0x60] 1 rfl rfl (by decide) (by decide)
theorem bit4C : Statement .bit4C := of_bytes _ 0xCB [0x61] 1 rfl rfl (by decide) (by decide)
theorem bit4D : Statement .bit4D := of_bytes _ 0xCB [0x62] 1 rfl rfl (by decide) (by decide)
theorem bit4E : Statement .bit4E := of_bytes _ 0xCB [0x63] 1 rfl rfl (by decide) (by decide)
theorem bit4H : Statement .bit4H := of_bytes _ 0xCB [0x64] 1 rfl rfl (by decide) (by decide)
theorem bit4L : Statement .bit4L := of_bytes _ 0xCB [0x65] 1 rfl rfl (by decide) (by decide)
theorem bit4IndHl : Statement .bit4IndHl := of_bytes _ 0xCB [0x66] 1 rfl rfl (by decide) (by decide)
theorem bit4A : Statement .bit4A := of_bytes _ 0xCB [0x67] 1 rfl rfl (by decide) (by decide)
theorem bit5B : Statement .bit5B := of_bytes _ 0xCB [0x68] 1 rfl rfl (by decide) (by decide)
theorem bit5C : Statement .bit5C := of_bytes _ 0xCB [0x69] 1 rfl rfl (by decide) (by decide)
theorem bit5D : Statement .bit5D := of_bytes _ 0xCB [0x6A] 1 rfl rfl (by decide) (by decide)
theorem bit5E : Statement .bit5E := of_bytes _ 0xCB [0x6B] 1 rfl rfl (by decide) (by decide)
theorem bit5H : Statement .bit5H := of_bytes _ 0xCB [0x6C] 1 rfl rfl (by decide) (by decide)
theorem bit5L : Statement .bit5L := of_bytes _ 0xCB [0x6D] 1 rfl rfl (by decide) (by decide)
theorem bit5IndHl : Statement .bit5IndHl := of_bytes _ 0xCB [0x6E] 1 rfl rfl (by decide) (by decide)
theorem bit5A : Statement .bit5A := of_bytes _ 0xCB [0x6F] 1 rfl rfl (by decide) (by decide)
theorem bit6B : Statement .bit6B := of_bytes _ 0xCB [0x70] 1 rfl rfl (by decide) (by decide)
theorem bit6C : Statement .bit6C := of_bytes _ 0xCB [0x71] 1 rfl rfl (by decide) (by decide)
theorem bit6D : Statement .bit6D := of_bytes _ 0xCB [0x72] 1 rfl rfl (by decide) (by decide)
theorem bit6E : Statement .bit6E := of_bytes _ 0xCB [0x73] 1 rfl rfl (by decide) (by decide)
theorem bit6H : Statement .bit6H := of_bytes _ 0xCB [0x74] 1 rfl rfl (by decide) (by decide)
theorem bit6L : Statement .bit6L := of_bytes _ 0xCB [0x75] 1 rfl rfl (by decide) (by decide)
theorem bit6IndHl : Statement .bit6IndHl := of_bytes _ 0xCB [0x76] 1 rfl rfl (by decide) (by decide)
theorem bit6A : Statement .bit6A := of_bytes _ 0xCB [0x77] 1 rfl rfl (by decide) (by decide)
theorem bit7B : Statement .bit7B := of_bytes _ 0xCB [0x78] 1 rfl rfl (by decide) (by decide)
theorem bit7C : Statement .bit7C := of_bytes _ 0xCB [0x79] 1 rfl rfl (by decide) (by decide)
theorem bit7D : Statement .bit7D := of_bytes _ 0xCB [0x7A] 1 rfl rfl (by decide) (by decide)
theorem bit7E : Statement .bit7E := of_bytes _ 0xCB [0x7B] 1 rfl rfl (by decide) (by decide)
theorem bit7H : Statement .bit7H := of_bytes _ 0xCB [0x7C] 1 rfl rfl (by decide) (by decide)
theorem bit7L : Statement .bit7L := of_bytes _ 0xCB [0x7D] 1 rfl rfl (by decide) (by decide)
theorem bit7IndHl : Statement .bit7IndHl := of_bytes _ 0xCB [0x7E] 1 rfl rfl (by decide) (by decide)
theorem bit7A : Statement .bit7A := of_bytes _ 0xCB [0x7F] 1 rfl rfl (by decide) (by decide)
theorem res0B : Statement .res0B := of_bytes _ 0xCB [0x80] 1 rfl rfl (by decide) (by decide)
theorem res0C : Statement .res0C := of_bytes _ 0xCB [0x81] 1 rfl rfl (by decide) (by decide)
theorem res0D : Statement .res0D := of_bytes _ 0xCB [0x82] 1 rfl rfl (by decide) (by decide)
theorem res0E : Statement .res0E := of_bytes _ 0xCB [0x83] 1 rfl rfl (by decide) (by decide)
theorem res0H : Statement .res0H := of_bytes _ 0xCB [0x84] 1 rfl rfl (by decide) (by decide)
theorem res0L : Statement .res0L := of_bytes _ 0xCB [0x85] 1 rfl rfl (by decide) (by decide)
theorem res0IndHl : Statement .res0IndHl := of_bytes _ 0xCB [0x86] 1 rfl rfl (by decide) (by decide)
theorem res0A : Statement .res0A := of_bytes _ 0xCB [0x87] 1 rfl rfl (by decide) (by decide)
theorem res1B : Statement .res1B := of_bytes _ 0xCB [0x88] 1 rfl rfl (by decide) (by decide)
theorem res1C : Statement .res1C := of_bytes _ 0xCB [0x89] 1 rfl rfl (by decide) (by decide)
theorem res1D : Statement .res1D := of_bytes _ 0xCB [0x8A] 1 rfl rfl (by decide) (by decide)
theorem res1E : Statement .res1E := of_bytes _ 0xCB [0x8B] 1 rfl rfl (by decide) (by decide)
theorem res1H : Statement .res1H := of_bytes _ 0xCB [0x8C] 1 rfl rfl (by decide) (by decide)
theorem res1L : Statement .res1L := of_bytes _ 0xCB [0x8D] 1 rfl rfl (by decide) (by decide)
theorem res1IndHl : Statement .res1IndHl := of_bytes _ 0xCB [0x8E] 1 rfl rfl (by decide) (by decide)
theorem res1A : Statement .res1A := of_bytes _ 0xCB [0x8F] 1 rfl rfl (by decide) (by decide)
theorem res2B : Statement .res2B := of_bytes _ 0xCB [0x90] 1 rfl rfl (by decide) (by decide)
theorem res2C : Statement .res2C := of_bytes _ 0xCB [0x91] 1 rfl rfl (by decide) (by decide)
theorem res2D : Statement .res2D := of_bytes _ 0xCB [0x92] 1 rfl rfl (by decide) (by decide)
theorem res2E : Statement .res2E := of_bytes _ 0xCB [0x93] 1 rfl rfl (by decide) (by decide)
theorem res2H : Statement .res2H := of_bytes _ 0xCB [0x94] 1 rfl rfl (by decide) (by decide)
theorem res2L : Statement .res2L := of_bytes _ 0xCB [0x95] 1 rfl rfl (by decide) (by decide)
theorem res2IndHl : Statement .res2IndHl := of_bytes _ 0xCB [0x96] 1 rfl rfl (by decide) (by decide)
theorem res2A : Statement .res2A := of_bytes _ 0xCB [0x97] 1 rfl rfl (by decide) (by decide)
theorem res3B : Statement .res3B := of_bytes _ 0xCB [0x98] 1 rfl rfl (by decide) (by decide)
theorem res3C : Statement .res3C := of_bytes _ 0xCB [0x99] 1 rfl rfl (by decide) (by decide)
theorem res3D : Statement .res3D := of_bytes _ 0xCB [0x9A] 1 rfl rfl (by decide) (by decide)
theorem res3E : Statement .res3E := of_bytes _ 0xCB [0x9B] 1 rfl rfl (by decide) (by decide)
theorem res3H : Statement .res3H := of_bytes _ 0xCB [0x9C] 1 rfl rfl (by decide) (by decide)
theorem res3L : Statement .res3L := of_bytes _ 0xCB [0x9D] 1 rfl rfl (by decide) (by decide)
theorem res3IndHl : Statement .res3IndHl := of_bytes _ 0xCB [0x9E] 1 rfl rfl (by decide) (by decide)
theorem res3A : Statement .res3A := of_bytes _ 0xCB [0x9F] 1 rfl rfl (by decide) (by decide)
theorem res4B : Statement .res4B := of_bytes _ 0xCB [0xA0] 1 rfl rfl (by decide) (by decide)
theorem res4C : Statement .res4C := of_bytes _ 0xCB [0xA1] 1 rfl rfl (by decide) (by decide)
theorem res4D : Statement .res4D := of_bytes _ 0xCB [0xA2] 1 rfl rfl (by decide) (by decide)
theorem res4E : Statement .res4E := of_bytes _ 0xCB [0xA3] 1 rfl rfl (by decide) (by decide)
theorem res4H : Statement .res4H := of_bytes _ 0xCB [0xA4] 1 rfl rfl (by decide) (by decide)
theorem res4L : Statement .res4L := of_bytes _ 0xCB [0xA5] 1 rfl rfl (by decide) (by decide)
theorem res4IndHl : Statement .res4IndHl := of_bytes _ 0xCB [0xA6] 1 rfl rfl (by decide) (by decide)
theorem res4A : Statement .res4A := of_bytes _ 0xCB [0xA7] 1 rfl rfl (by decide) (by decide)
theorem res5B : Statement .res5B := of_bytes _ 0xCB [0xA8] 1 rfl rfl (by decide) (by decide)
theorem res5C : Statement .res5C := of_bytes _ 0xCB [0xA9] 1 rfl rfl (by decide) (by decide)
theorem res5D : Statement .res5D := of_bytes _ 0xCB [0xAA] 1 rfl rfl (by decide) (by decide)
theorem res5E : Statement .res5E := of_bytes _ 0xCB [0xAB] 1 rfl rfl (by decide) (by decide)
theorem res5H : Statement .res5H := of_bytes _ 0xCB [0xAC] 1 rfl rfl (by decide) (by decide)
theorem res5L : Statement .res5L := of_bytes _ 0xCB [0xAD] 1 rfl rfl (by decide) (by decide)
theorem res5IndHl : Statement .res5IndHl := of_bytes _ 0xCB [0xAE] 1 rfl rfl (by decide) (by decide)
theorem res5A : Statement .res5A := of_bytes _ 0xCB [0xAF] 1 rfl rfl (by decide) (by decide)
theorem res6B : Statement .res6B := of_bytes _ 0xCB [0xB0] 1 rfl rfl (by decide) (by decide)
theorem res6C : Statement .res6C := of_bytes _ 0xCB [0xB1] 1 rfl rfl (by decide) (by decide)
theorem res6D : Statement .res6D := of_bytes _ 0xCB [0xB2] 1 rfl rfl (by decide) (by decide)
theorem res6E : Statement .res6E := of_bytes _ 0xCB [0xB3] 1 rfl rfl (by decide) (by decide)
theorem res6H : Statement .res6H := of_bytes _ 0xCB [0xB4] 1 rfl rfl (by decide) (by decide)
theorem res6L : Statement .res6L := of_bytes _ 0xCB [0xB5] 1 rfl rfl (by decide) (by decide)
theorem res6IndHl : Statement .res6IndHl := of_bytes _ 0xCB [0xB6] 1 rfl rfl (by decide) (by decide)
theorem res6A : Statement .res6A := of_bytes _ 0xCB [0xB7] 1 rfl rfl (by decide) (by decide)
theorem res7B : Statement .res7B := of_bytes _ 0xCB [0xB8] 1 rfl rfl (by decide) (by decide)
theorem res7C : Statement .res7C := of_bytes _ 0xCB [0xB9] 1 rfl rfl (by decide) (by decide)
theorem res7D : Statement .res7D := of_bytes _ 0xCB [0xBA] 1 rfl rfl (by decide) (by decide)
theorem res7E : Statement .res7E := of_bytes _ 0xCB [0xBB] 1 rfl rfl (by decide) (by decide)
theorem res7H : Statement .res7H := of_bytes _ 0xCB [0xBC] 1 rfl rfl (by decide) (by decide)
theorem res7L : Statement .res7L := of_bytes _ 0xCB [0xBD] 1 rfl rfl (by decide) (by decide)
theorem res7IndHl : Statement .res7IndHl := of_bytes _ 0xCB [0xBE] 1 rfl rfl (by decide) (by decide)
theorem res7A : Statement .res7A := of_bytes _ 0xCB [0xBF] 1 rfl rfl (by decide) (by decide)
theorem set0B : Statement .set0B := of_bytes _ 0xCB [0xC0] 1 rfl rfl (by decide) (by decide)
theorem set0C : Statement .set0C := of_bytes _ 0xCB [0xC1] 1 rfl rfl (by decide) (by decide)
theorem set0D : Statement .set0D := of_bytes _ 0xCB [0xC2] 1 rfl rfl (by decide) (by decide)
theorem set0E : Statement .set0E := of_bytes _ 0xCB [0xC3] 1 rfl rfl (by decide) (by decide)
theorem set0H : Statement .set0H := of_bytes _ 0xCB [0xC4] 1 rfl rfl (by decide) (by decide)
theorem set0L : Statement .set0L := of_bytes _ 0xCB [0xC5] 1 rfl rfl (by decide) (by decide)
theorem set0IndHl : Statement .set0IndHl := of_bytes _ 0xCB [0xC6] 1 rfl rfl (by decide) (by decide)
theorem set0A : Statement .set0A := of_bytes _ 0xCB [0xC7] 1 rfl rfl (by decide) (by decide)
theorem set1B : Statement .set1B := of_bytes _ 0xCB [0xC8] 1 rfl rfl (by decide) (by decide)
theorem set1C : Statement .set1C := of_bytes _ 0xCB [0xC9] 1 rfl rfl (by decide) (by decide)
theorem set1D : Statement .set1D := of_bytes _ 0xCB [0xCA] 1 rfl rfl (by decide) (by decide)
theorem set1E : Statement .set1E := of_bytes _ 0xCB [0xCB] 1 rfl rfl (by decide) (by decide)
theorem set1H : Statement .set1H := of_bytes _ 0xCB [0xCC] 1 rfl rfl (by decide) (by decide)
theorem set1L : Statement .set1L := of_bytes _ 0xCB [0xCD] 1 rfl rfl (by decide) (by decide)
theorem set1IndHl : Statement .set1IndHl := of_bytes _ 0xCB [0xCE] 1 rfl rfl (by decide) (by decide)
theorem set1A : Statement .set1A := of_bytes _ 0xCB [0xCF] 1 rfl rfl (by decide) (by decide)
theorem set2B : Statement .set2B := of_bytes _ 0xCB [0xD0] 1 rfl rfl (by decide) (by decide)
theorem set2C : Statement .set2C := of_bytes _ 0xCB [0xD1] 1 rfl rfl (by decide) (by decide)
theorem set2D : Statement .set2D := of_bytes _ 0xCB [0xD2] 1 rfl rfl (by decide) (by decide)
theorem set2E : Statement .set2E := of_bytes _ 0xCB [0xD3] 1 rfl rfl (by decide) (by decide)
theorem set2H : Statement .set2H := of_bytes _ 0xCB [0xD4] 1 rfl rfl (by decide) (by decide)
theorem set2L : Statement .set2L := of_bytes _ 0xCB [0xD5] 1 rfl rfl (by decide) (by decide)
theorem set2IndHl : Statement .set2IndHl := of_bytes _ 0xCB [0xD6] 1 rfl rfl (by decide) (by decide)
theorem set2A : Statement .set2A := of_bytes _ 0xCB [0xD7] 1 rfl rfl (by decide) (by decide)
theorem set3B : Statement .set3B := of_bytes _ 0xCB [0xD8] 1 rfl rfl (by decide) (by decide)
theorem set3C : Statement .set3C := of_bytes _ 0xCB [0xD9] 1 rfl rfl (by decide) (by decide)
theorem set3D : Statement .set3D := of_bytes _ 0xCB [0xDA] 1 rfl rfl (by decide) (by decide)
theorem set3E : Statement .set3E := of_bytes _ 0xCB [0xDB] 1 rfl rfl (by decide) (by decide)
theorem set3H : Statement .set3H := of_bytes _ 0xCB [0xDC] 1 rfl rfl (by decide) (by decide)
theorem set3L : Statement .set3L := of_bytes _ 0xCB [0xDD] 1 rfl rfl (by decide) (by decide)
theorem set3IndHl : Statement .set3IndHl := of_bytes _ 0xCB [0xDE] 1 rfl rfl (by decide) (by decide)
theorem set3A : Statement .set3A := of_bytes _ 0xCB [0xDF] 1 rfl rfl (by decide) (by decide)
theorem set4B : Statement .set4B := of_bytes _ 0xCB [0xE0] 1 rfl rfl (by decide) (by decide)
theorem set4C : Statement .set4C := of_bytes _ 0xCB [0xE1] 1 rfl rfl (by decide) (by decide)
theorem set4D : Statement .set4D := of_bytes _ 0xCB [0xE2] 1 rfl rfl (by decide) (by decide)
theorem set4E : Statement .set4E := of_bytes _ 0xCB [0xE3] 1 rfl rfl (by decide) (by decide)
theorem set4H : Statement .set4H := of_bytes _ 0xCB [0xE4] 1 rfl rfl (by decide) (by decide)
theorem set4L : Statement .set4L := of_bytes _ 0xCB [0xE5] 1 rfl rfl (by decide) (by decide)
theorem set4IndHl : Statement .set4IndHl := of_bytes _ 0xCB [0xE6] 1 rfl rfl (by decide) (by decide)
theorem set4A : Statement .set4A := of_bytes _ 0xCB [0xE7] 1 rfl rfl (by decide) (by decide)
theorem set5B : Statement .set5B := of_bytes _ 0xCB [0xE8] 1 rfl rfl (by decide) (by decide)
theorem set5C : Statement .set5C := of_bytes _ 0xCB [0xE9] 1 rfl rfl (by decide) (by decide)
theorem set5D : Statement .set5D := of_bytes _ 0xCB [0xEA] 1 rfl rfl (by decide) (by decide)
theorem set5E : Statement .set5E := of_bytes _ 0xCB [0xEB] 1 rfl rfl (by decide) (by decide)
theorem set5H : Statement .set5H := of_bytes _ 0xCB [0xEC] 1 rfl rfl (by decide) (by decide)
theorem set5L : Statement .set5L := of_bytes _ 0xCB [0xED] 1 rfl rfl (by decide) (by decide)
theorem set5IndHl : Statement .set5IndHl := of_bytes _ 0xCB [0xEE] 1 rfl rfl (by decide) (by decide)
theorem set5A : Statement .set5A := of_bytes _ 0xCB [0xEF] 1 rfl rfl (by decide) (by decide)
theorem set6B : Statement .set6B := of_bytes _ 0xCB [0xF0] 1 rfl rfl (by decide) (by decide)
theorem set6C : Statement .set6C := of_bytes _ 0xCB [0xF1] 1 rfl rfl (by decide) (by decide)
theorem set6D : Statement .set6D := of_bytes _ 0xCB [0xF2] 1 rfl rfl (by decide) (by decide)
theorem set6E : Statement .set6E := of_bytes _ 0xCB [0xF3] 1 rfl rfl (by decide) (by decide)
theorem set6H : Statement .set6H := of_bytes _ 0xCB [0xF4] 1 rfl rfl (by decide) (by decide)
theorem set6L : Statement .set6L := of_bytes _ 0xCB [0xF5] 1 rfl rfl (by decide) (by decide)
theorem set6IndHl : Statement .set6IndHl := of_bytes _ 0xCB [0xF6] 1 rfl rfl (by decide) (by decide)
theorem set6A : Statement .set6A := of_bytes _ 0xCB [0xF7] 1 rfl rfl (by decide) (by decide)
theorem set7B : Statement .set7B := of_bytes _ 0xCB [0xF8] 1 rfl rfl (by decide) (by decide)
theorem set7C : Statement .set7C := of_bytes _ 0xCB [0xF9] 1 rfl rfl (by decide) (by decide)
theorem set7D : Statement .set7D := of_bytes _ 0xCB [0xFA] 1 rfl rfl (by decide) (by decide)
theorem set7E : Statement .set7E := of_bytes _ 0xCB [0xFB] 1 rfl rfl (by decide) (by decide)
theorem set7H : Statement .set7H := of_bytes _ 0xCB [0xFC] 1 rfl rfl (by decide) (by decide)
theorem set7L : Statement .set7L := of_bytes _ 0xCB [0xFD] 1 rfl rfl (by decide) (by decide)
theorem set7IndHl : Statement .set7IndHl := of_bytes _ 0xCB [0xFE] 1 rfl rfl (by decide) (by decide)
theorem set7A : Statement .set7A := of_bytes _ 0xCB [0xFF] 1 rfl rfl (by decide) (by decide)

end EncodedLength

end Sys2Proof.Laws
end

