-- ==== Sys2Proof/Laws/Registers.lean ====
section
/-! SUPPORT. The fields of the timer, the PPU and the joypad that a register write leaves alone, one lemma each. -/

namespace Sys2Proof.Machine

/-! The timer: what an increment and an edge leave alone. -/

@[simp] theorem Timer.increment_sysCounter (t : Timer) : t.increment.sysCounter = t.sysCounter := by
  unfold Timer.increment
  split <;> rfl
@[simp] theorem Timer.afterEdge_sysCounter (t : Timer) (old : Bool) : (t.afterEdge old).sysCounter = t.sysCounter := by
  unfold Timer.afterEdge
  split
  · exact t.increment_sysCounter
  · rfl
@[simp] theorem Timer.increment_tma (t : Timer) : t.increment.tma = t.tma := by
  unfold Timer.increment
  split <;> rfl
@[simp] theorem Timer.afterEdge_tma (t : Timer) (old : Bool) : (t.afterEdge old).tma = t.tma := by
  unfold Timer.afterEdge
  split
  · exact t.increment_tma
  · rfl
@[simp] theorem Timer.increment_tac (t : Timer) : t.increment.tac = t.tac := by
  unfold Timer.increment
  split <;> rfl
@[simp] theorem Timer.afterEdge_tac (t : Timer) (old : Bool) : (t.afterEdge old).tac = t.tac := by
  unfold Timer.afterEdge
  split
  · exact t.increment_tac
  · rfl

/-! The timer: each register after a write of another. -/

@[simp] theorem Timer.writeDiv_tma (t : Timer) : t.writeDiv.tma = t.tma := Timer.afterEdge_tma _ _
@[simp] theorem Timer.writeDiv_tac (t : Timer) : t.writeDiv.tac = t.tac := Timer.afterEdge_tac _ _
@[simp] theorem Timer.writeDiv_sysCounter (t : Timer) : t.writeDiv.sysCounter = 0 := Timer.afterEdge_sysCounter _ _
@[simp] theorem Timer.writeTac_tma (t : Timer) (v : Byte) : (t.writeTac v).tma = t.tma := Timer.afterEdge_tma _ _
@[simp] theorem Timer.writeTac_sysCounter (t : Timer) (v : Byte) : (t.writeTac v).sysCounter = t.sysCounter := Timer.afterEdge_sysCounter _ _
@[simp] theorem Timer.writeTac_tac (t : Timer) (v : Byte) : (t.writeTac v).tac = v.extractLsb' 0 3 := Timer.afterEdge_tac _ _
@[simp] theorem Timer.writeTima_sysCounter (t : Timer) (v : Byte) : (t.writeTima v).sysCounter = t.sysCounter := rfl
@[simp] theorem Timer.writeTima_tma (t : Timer) (v : Byte) : (t.writeTima v).tma = t.tma := rfl
@[simp] theorem Timer.writeTima_tac (t : Timer) (v : Byte) : (t.writeTima v).tac = t.tac := rfl
@[simp] theorem Timer.writeTima_tima (t : Timer) (v : Byte) : (t.writeTima v).tima = v := rfl
@[simp] theorem Timer.writeTma_sysCounter (t : Timer) (v : Byte) : (t.writeTma v).sysCounter = t.sysCounter := rfl
@[simp] theorem Timer.writeTma_tima (t : Timer) (v : Byte) : (t.writeTma v).tima = t.tima := rfl
@[simp] theorem Timer.writeTma_tac (t : Timer) (v : Byte) : (t.writeTma v).tac = t.tac := rfl
@[simp] theorem Timer.writeTma_reloadDelay (t : Timer) (v : Byte) : (t.writeTma v).reloadDelay = t.reloadDelay := rfl
@[simp] theorem Timer.writeTma_tma (t : Timer) (v : Byte) : (t.writeTma v).tma = v := rfl

/-! The PPU: what a write to LCDC leaves alone. -/

@[simp] theorem Ppu.writeLcdc_statEnables (p : Ppu) (v : Byte) : (p.writeLcdc v).statEnables = p.statEnables := by
  unfold Ppu.writeLcdc
  split
  · rfl
  · split <;> rfl
@[simp] theorem Ppu.writeLcdc_scy (p : Ppu) (v : Byte) : (p.writeLcdc v).scy = p.scy := by
  unfold Ppu.writeLcdc
  split
  · rfl
  · split <;> rfl
@[simp] theorem Ppu.writeLcdc_scx (p : Ppu) (v : Byte) : (p.writeLcdc v).scx = p.scx := by
  unfold Ppu.writeLcdc
  split
  · rfl
  · split <;> rfl
@[simp] theorem Ppu.writeLcdc_lyc (p : Ppu) (v : Byte) : (p.writeLcdc v).lyc = p.lyc := by
  unfold Ppu.writeLcdc
  split
  · rfl
  · split <;> rfl
@[simp] theorem Ppu.writeLcdc_bgp (p : Ppu) (v : Byte) : (p.writeLcdc v).bgp = p.bgp := by
  unfold Ppu.writeLcdc
  split
  · rfl
  · split <;> rfl
@[simp] theorem Ppu.writeLcdc_obp0 (p : Ppu) (v : Byte) : (p.writeLcdc v).obp0 = p.obp0 := by
  unfold Ppu.writeLcdc
  split
  · rfl
  · split <;> rfl
@[simp] theorem Ppu.writeLcdc_obp1 (p : Ppu) (v : Byte) : (p.writeLcdc v).obp1 = p.obp1 := by
  unfold Ppu.writeLcdc
  split
  · rfl
  · split <;> rfl
@[simp] theorem Ppu.writeLcdc_wy (p : Ppu) (v : Byte) : (p.writeLcdc v).wy = p.wy := by
  unfold Ppu.writeLcdc
  split
  · rfl
  · split <;> rfl
@[simp] theorem Ppu.writeLcdc_wx (p : Ppu) (v : Byte) : (p.writeLcdc v).wx = p.wx := by
  unfold Ppu.writeLcdc
  split
  · rfl
  · split <;> rfl
@[simp] theorem Ppu.writeLcdc_framebuffer (p : Ppu) (v : Byte) : (p.writeLcdc v).framebuffer = p.framebuffer := by
  unfold Ppu.writeLcdc
  split
  · rfl
  · split <;> rfl
@[simp] theorem Ppu.writeLcdc_lcdc (p : Ppu) (v : Byte) : (p.writeLcdc v).lcdc = v := by
  unfold Ppu.writeLcdc
  split
  · rfl
  · split <;> rfl

/-- STAT shows four fields alone. -/
theorem Ppu.statByte_congr {p q : Ppu} (h1 : p.statEnables = q.statEnables) (h2 : p.ly = q.ly) (h3 : p.lyc = q.lyc)
    (h4 : p.mode = q.mode) : p.statByte = q.statByte := by
  simp only [Ppu.statByte, h1, h2, h3, h4]

end Sys2Proof.Machine
end

