-- ==== Sys2Proof/Laws/Step.lean ====
section
/-! SUPPORT. The cases of the CPU step, said once, and what a step can do to the parts of State that no instruction writes. -/

namespace Sys2Proof.Laws

open Sys2Proof Sys2Proof.Machine

/-- An instruction is 1 to 3 bytes long. -/
theorem instrLength_le (b0 : Byte) : instrLength b0 ≤ 3 := by revert b0; decide

/-- The pending enable applied, in one record. -/
theorem applyPendingEnable_eq (s : State) :
    applyPendingEnable s = { s with irq := { s.irq with ime := s.irq.ime || s.irq.imePending, imePending := false } } := by
  unfold applyPendingEnable
  obtain ⟨c, ⟨a, b, i, p⟩, _⟩ := s
  cases p <;> simp

/-- The halted state left changes nothing of a CPU that is not halted. -/
theorem wake_of_not_halted {s : State} (h : s.cpu.halted = false) : wake s = s := by
  obtain ⟨c, _⟩ := s
  obtain ⟨_⟩ := c
  simp_all [wake]

/-- The five cases of the CPU step. -/
theorem cpuStep_cases (s : State) :
    (s.cpu.stopped = true ∧ cpuStep s = .next (s.took 4)) ∨
    (s.cpu.stopped = false ∧ s.pending = none ∧ s.cpu.halted = true ∧ cpuStep s = .next (s.took 4)) ∨
    (∃ k, s.cpu.stopped = false ∧ s.pending = some k ∧ s.irq.ime = true ∧ cpuStep s = .next (dispatch (wake s) k)) ∨
    (s.cpu.stopped = false ∧ (s.pending = none → s.cpu.halted = false) ∧ (s.pending = none ∨ s.irq.ime = false) ∧
      cpuStep s = runInstr (wake s)) := by
  unfold cpuStep checkAndRun
  cases hs : s.cpu.stopped
  · cases hp : s.pending with
    | none =>
      cases hh : s.cpu.halted
      · exact .inr (.inr (.inr ⟨rfl, fun _ => rfl, .inl rfl, by simp [wake_of_not_halted hh]⟩))
      · exact .inr (.inl ⟨rfl, rfl, rfl, by simp [Config.haltIdleCost]⟩)
    | some k =>
      cases hi : s.irq.ime
      · exact .inr (.inr (.inr ⟨rfl, nofun, .inr rfl, by simp⟩))
      · exact .inr (.inr (.inl ⟨k, rfl, rfl, rfl, by simp⟩))
  · exact .inl ⟨rfl, by simp [Config.stopIdleCost]⟩

/-- The instruction part of a step is `exec` of the instruction at PC, with the pending enable applied and PC past it. -/
theorem runInstr_eq (s : State) :
    runInstr s = exec (decodeBytes (busRead s s.cpu.pc) (busRead s (s.cpu.pc + 1)) (busRead s (s.cpu.pc + 2)))
      { s with
        irq := { s.irq with ime := s.irq.ime || s.irq.imePending, imePending := false }
        cpu := { s.cpu with pc := s.cpu.pc + BitVec.ofNat 16 (instrLength (busRead s s.cpu.pc)) } } := by
  have h0 : s.cpu.pc + BitVec.ofNat 16 0 = s.cpu.pc := by simp
  have hr : ∀ a, busRead (applyPendingEnable s) a = busRead s a := by
    intro a
    rw [applyPendingEnable_eq]
    rfl
  have hc : (applyPendingEnable s).cpu = s.cpu := by rw [applyPendingEnable_eq]
  unfold runInstr instrAtPc pastInstr streamByte skipBytes
  dsimp only
  rw [hr, hr, hr, hc, h0]
  rw [applyPendingEnable_eq]
  rfl

/-- Every CPU step answers a next state. -/
theorem cpuStep_next (s : State) : ∃ t, cpuStep s = .next t := by
  obtain ⟨_, h⟩ | ⟨_, _, _, h⟩ | ⟨k, _, _, _, h⟩ | ⟨_, _, _, h⟩ := cpuStep_cases s
  · exact ⟨_, h⟩
  · exact ⟨_, h⟩
  · exact ⟨_, h⟩
  · rw [h, runInstr_eq]
    obtain ⟨u, hu, _⟩ := exec_effect _ _
    exact ⟨u, hu⟩

/-- A system step is the CPU step on the state with the host's buttons, then the devices. -/
theorem step_eq {s t : State} (h : cpuStep (takeInput s) = .next t) : step s = .next (advanceDevices t) := by
  unfold step systemStep
  rw [h]

/-- The instruction part of a step leaves a legal state legal. -/
theorem runInstr_legal {s t : State} (h : Safety.Legal s) (hr : runInstr s = .next t) : Safety.Legal t := by
  rw [runInstr_eq] at hr
  obtain ⟨u, hu, he⟩ := exec_effect (decodeBytes (busRead s s.cpu.pc) (busRead s (s.cpu.pc + 1)) (busRead s (s.cpu.pc + 2)))
    { s with
      irq := { s.irq with ime := s.irq.ime || s.irq.imePending, imePending := false }
      cpu := { s.cpu with pc := s.cpu.pc + BitVec.ofNat 16 (instrLength (busRead s s.cpu.pc)) } }
  rw [hu] at hr
  cases hr
  exact Effect.legal he (Legal.of_eq h h.flagsLow rfl rfl rfl rfl)

end Sys2Proof.Laws
end

