-- ==== Sys2Proof/Tests/Slice0.lean ====
section
/-! SUPPORT. Tests: the refusal of the ill-formed term, every constructor's decoding from its bytes as the opcode tables write
them, single steps with the results that 95_test_vectors gives, and for every statement with hypotheses a state and operands
that meet them. -/

namespace Sys2Proof.Tests

open Sys2Proof Sys2Proof.Machine Sys2Proof.Claims

/-- The registers after reset. -/
def base : Cpu := State.reset.cpu

/-- The interrupt registers, all clear. -/
def clear : Interrupts := { ie := 0x00, ifl := 0b00000, ime := false, imePending := false }

/-- The state after reset with these registers and interrupt registers, and these bytes in place. -/
def begin (c : Cpu) (q : Interrupts) (bytes : List (Nat × Byte)) : State :=
  bytes.foldl (fun s x => placeByte s (BitVec.ofNat 16 x.1) x.2) { State.reset with cpu := c, irq := q }

/-- The state after one CPU step. -/
def after (s : State) : Option State :=
  match cpuStep s with
  | .next t => some t
  | _ => none

/-! Well-formedness, and every constructor's decoding, a row of the tables of 30_encoding R130 and R135 each. -/

/-- The prefix byte alone is no instruction. -/
theorem test_prefix_is_ill_formed : Instr.wellFormed .prefixCb = false := by decide
theorem test_bit_is_well_formed : Instr.wellFormed .bit0B = true := by decide
theorem test_no_bytes_refused : decode [] = .error .noBytes := by decide
theorem test_prefix_alone_refused : decode [0xCB] = .error .truncated := by decide
theorem test_word_cut_short_refused : decode [0x01, 0x34] = .error .truncated := by decide

theorem test_decode_primary_0x : ∀ x ∈ ([
    ([0x00], .nop), ([0x01, 0x34, 0x12], .ldBcD16 0x1234), ([0x02], .ldIndBcA), ([0x03], .incBc),
    ([0x04], .incB), ([0x05], .decB), ([0x06, 0x5A], .ldBD8 0x5A), ([0x07], .rlca),
    ([0x08, 0x34, 0x12], .ldIndA16Sp 0x1234), ([0x09], .addHlBc), ([0x0A], .ldAIndBc), ([0x0B], .decBc),
    ([0x0C], .incC), ([0x0D], .decC), ([0x0E, 0x5A], .ldCD8 0x5A), ([0x0F], .rrca)] : List (List Byte × Instr)),
    decode x.1 = .ok (x.2, []) := by decide

theorem test_decode_primary_1x : ∀ x ∈ ([
    ([0x10, 0x5A], .stop 0x5A), ([0x11, 0x34, 0x12], .ldDeD16 0x1234), ([0x12], .ldIndDeA), ([0x13], .incDe),
    ([0x14], .incD), ([0x15], .decD), ([0x16, 0x5A], .ldDD8 0x5A), ([0x17], .rla),
    ([0x18, 0x5A], .jrE8 0x5A), ([0x19], .addHlDe), ([0x1A], .ldAIndDe), ([0x1B], .decDe),
    ([0x1C], .incE), ([0x1D], .decE), ([0x1E, 0x5A], .ldED8 0x5A), ([0x1F], .rra)] : List (List Byte × Instr)),
    decode x.1 = .ok (x.2, []) := by decide

theorem test_decode_primary_2x : ∀ x ∈ ([
    ([0x20, 0x5A], .jrNzE8 0x5A), ([0x21, 0x34, 0x12], .ldHlD16 0x1234), ([0x22], .ldIndHlIncA), ([0x23], .incHl),
    ([0x24], .incH), ([0x25], .decH), ([0x26, 0x5A], .ldHD8 0x5A), ([0x27], .daa),
    ([0x28, 0x5A], .jrZE8 0x5A), ([0x29], .addHlHl), ([0x2A], .ldAIndHlInc), ([0x2B], .decHl),
    ([0x2C], .incL), ([0x2D], .decL), ([0x2E, 0x5A], .ldLD8 0x5A), ([0x2F], .cpl)] : List (List Byte × Instr)),
    decode x.1 = .ok (x.2, []) := by decide

theorem test_decode_primary_3x : ∀ x ∈ ([
    ([0x30, 0x5A], .jrNcE8 0x5A), ([0x31, 0x34, 0x12], .ldSpD16 0x1234), ([0x32], .ldIndHlDecA), ([0x33], .incSp),
    ([0x34], .incIndHl), ([0x35], .decIndHl), ([0x36, 0x5A], .ldIndHlD8 0x5A), ([0x37], .scf),
    ([0x38, 0x5A], .jrCE8 0x5A), ([0x39], .addHlSp), ([0x3A], .ldAIndHlDec), ([0x3B], .decSp),
    ([0x3C], .incA), ([0x3D], .decA), ([0x3E, 0x5A], .ldAD8 0x5A), ([0x3F], .ccf)] : List (List Byte × Instr)),
    decode x.1 = .ok (x.2, []) := by decide

theorem test_decode_primary_4x : ∀ x ∈ ([
    ([0x40], .ldBB), ([0x41], .ldBC), ([0x42], .ldBD), ([0x43], .ldBE),
    ([0x44], .ldBH), ([0x45], .ldBL), ([0x46], .ldBIndHl), ([0x47], .ldBA),
    ([0x48], .ldCB), ([0x49], .ldCC), ([0x4A], .ldCD), ([0x4B], .ldCE),
    ([0x4C], .ldCH), ([0x4D], .ldCL), ([0x4E], .ldCIndHl), ([0x4F], .ldCA)] : List (List Byte × Instr)),
    decode x.1 = .ok (x.2, []) := by decide

theorem test_decode_primary_5x : ∀ x ∈ ([
    ([0x50], .ldDB), ([0x51], .ldDC), ([0x52], .ldDD), ([0x53], .ldDE),
    ([0x54], .ldDH), ([0x55], .ldDL), ([0x56], .ldDIndHl), ([0x57], .ldDA),
    ([0x58], .ldEB), ([0x59], .ldEC), ([0x5A], .ldED), ([0x5B], .ldEE),
    ([0x5C], .ldEH), ([0x5D], .ldEL), ([0x5E], .ldEIndHl), ([0x5F], .ldEA)] : List (List Byte × Instr)),
    decode x.1 = .ok (x.2, []) := by decide

theorem test_decode_primary_6x : ∀ x ∈ ([
    ([0x60], .ldHB), ([0x61], .ldHC), ([0x62], .ldHD), ([0x63], .ldHE),
    ([0x64], .ldHH), ([0x65], .ldHL), ([0x66], .ldHIndHl), ([0x67], .ldHA),
    ([0x68], .ldLB), ([0x69], .ldLC), ([0x6A], .ldLD), ([0x6B], .ldLE),
    ([0x6C], .ldLH), ([0x6D], .ldLL), ([0x6E], .ldLIndHl), ([0x6F], .ldLA)] : List (List Byte × Instr)),
    decode x.1 = .ok (x.2, []) := by decide

theorem test_decode_primary_7x : ∀ x ∈ ([
    ([0x70], .ldIndHlB), ([0x71], .ldIndHlC), ([0x72], .ldIndHlD), ([0x73], .ldIndHlE),
    ([0x74], .ldIndHlH), ([0x75], .ldIndHlL), ([0x76], .halt), ([0x77], .ldIndHlA),
    ([0x78], .ldAB), ([0x79], .ldAC), ([0x7A], .ldAD), ([0x7B], .ldAE),
    ([0x7C], .ldAH), ([0x7D], .ldAL), ([0x7E], .ldAIndHl), ([0x7F], .ldAA)] : List (List Byte × Instr)),
    decode x.1 = .ok (x.2, []) := by decide

theorem test_decode_primary_8x : ∀ x ∈ ([
    ([0x80], .addAB), ([0x81], .addAC), ([0x82], .addAD), ([0x83], .addAE),
    ([0x84], .addAH), ([0x85], .addAL), ([0x86], .addAIndHl), ([0x87], .addAA),
    ([0x88], .adcAB), ([0x89], .adcAC), ([0x8A], .adcAD), ([0x8B], .adcAE),
    ([0x8C], .adcAH), ([0x8D], .adcAL), ([0x8E], .adcAIndHl), ([0x8F], .adcAA)] : List (List Byte × Instr)),
    decode x.1 = .ok (x.2, []) := by decide

theorem test_decode_primary_9x : ∀ x ∈ ([
    ([0x90], .subB), ([0x91], .subC), ([0x92], .subD), ([0x93], .subE),
    ([0x94], .subH), ([0x95], .subL), ([0x96], .subIndHl), ([0x97], .subA),
    ([0x98], .sbcAB), ([0x99], .sbcAC), ([0x9A], .sbcAD), ([0x9B], .sbcAE),
    ([0x9C], .sbcAH), ([0x9D], .sbcAL), ([0x9E], .sbcAIndHl), ([0x9F], .sbcAA)] : List (List Byte × Instr)),
    decode x.1 = .ok (x.2, []) := by decide

theorem test_decode_primary_Ax : ∀ x ∈ ([
    ([0xA0], .andB), ([0xA1], .andC), ([0xA2], .andD), ([0xA3], .andE),
    ([0xA4], .andH), ([0xA5], .andL), ([0xA6], .andIndHl), ([0xA7], .andA),
    ([0xA8], .xorB), ([0xA9], .xorC), ([0xAA], .xorD), ([0xAB], .xorE),
    ([0xAC], .xorH), ([0xAD], .xorL), ([0xAE], .xorIndHl), ([0xAF], .xorA)] : List (List Byte × Instr)),
    decode x.1 = .ok (x.2, []) := by decide

theorem test_decode_primary_Bx : ∀ x ∈ ([
    ([0xB0], .orB), ([0xB1], .orC), ([0xB2], .orD), ([0xB3], .orE),
    ([0xB4], .orH), ([0xB5], .orL), ([0xB6], .orIndHl), ([0xB7], .orA),
    ([0xB8], .cpB), ([0xB9], .cpC), ([0xBA], .cpD), ([0xBB], .cpE),
    ([0xBC], .cpH), ([0xBD], .cpL), ([0xBE], .cpIndHl), ([0xBF], .cpA)] : List (List Byte × Instr)),
    decode x.1 = .ok (x.2, []) := by decide

theorem test_decode_primary_Cx : ∀ x ∈ ([
    ([0xC0], .retNz), ([0xC1], .popBc), ([0xC2, 0x34, 0x12], .jpNzA16 0x1234), ([0xC3, 0x34, 0x12], .jpA16 0x1234),
    ([0xC4, 0x34, 0x12], .callNzA16 0x1234), ([0xC5], .pushBc), ([0xC6, 0x5A], .addAD8 0x5A), ([0xC7], .rst00),
    ([0xC8], .retZ), ([0xC9], .ret), ([0xCA, 0x34, 0x12], .jpZA16 0x1234), ([0xCC, 0x34, 0x12], .callZA16 0x1234),
    ([0xCD, 0x34, 0x12], .callA16 0x1234), ([0xCE, 0x5A], .adcAD8 0x5A), ([0xCF], .rst08)] : List (List Byte × Instr)),
    decode x.1 = .ok (x.2, []) := by decide

theorem test_decode_primary_Dx : ∀ x ∈ ([
    ([0xD0], .retNc), ([0xD1], .popDe), ([0xD2, 0x34, 0x12], .jpNcA16 0x1234), ([0xD3], .illegalD3),
    ([0xD4, 0x34, 0x12], .callNcA16 0x1234), ([0xD5], .pushDe), ([0xD6, 0x5A], .subD8 0x5A), ([0xD7], .rst10),
    ([0xD8], .retC), ([0xD9], .reti), ([0xDA, 0x34, 0x12], .jpCA16 0x1234), ([0xDB], .illegalDB),
    ([0xDC, 0x34, 0x12], .callCA16 0x1234), ([0xDD], .illegalDD), ([0xDE, 0x5A], .sbcAD8 0x5A), ([0xDF], .rst18)] : List (List Byte × Instr)),
    decode x.1 = .ok (x.2, []) := by decide

theorem test_decode_primary_Ex : ∀ x ∈ ([
    ([0xE0, 0x5A], .ldhIndA8A 0x5A), ([0xE1], .popHl), ([0xE2], .ldhIndCA), ([0xE3], .illegalE3),
    ([0xE4], .illegalE4), ([0xE5], .pushHl), ([0xE6, 0x5A], .andD8 0x5A), ([0xE7], .rst20),
    ([0xE8, 0x5A], .addSpE8 0x5A), ([0xE9], .jpHl), ([0xEA, 0x34, 0x12], .ldIndA16A 0x1234), ([0xEB], .illegalEB),
    ([0xEC], .illegalEC), ([0xED], .illegalED), ([0xEE, 0x5A], .xorD8 0x5A), ([0xEF], .rst28)] : List (List Byte × Instr)),
    decode x.1 = .ok (x.2, []) := by decide

theorem test_decode_primary_Fx : ∀ x ∈ ([
    ([0xF0, 0x5A], .ldhAIndA8 0x5A), ([0xF1], .popAf), ([0xF2], .ldhAIndC), ([0xF3], .di),
    ([0xF4], .illegalF4), ([0xF5], .pushAf), ([0xF6, 0x5A], .orD8 0x5A), ([0xF7], .rst30),
    ([0xF8, 0x5A], .ldHlSpE8 0x5A), ([0xF9], .ldSpHl), ([0xFA, 0x34, 0x12], .ldAIndA16 0x1234), ([0xFB], .ei),
    ([0xFC], .illegalFC), ([0xFD], .illegalFD), ([0xFE, 0x5A], .cpD8 0x5A), ([0xFF], .rst38)] : List (List Byte × Instr)),
    decode x.1 = .ok (x.2, []) := by decide

theorem test_decode_secondary_0x : ∀ x ∈ ([
    ([0xCB, 0x00], .rlcB), ([0xCB, 0x01], .rlcC), ([0xCB, 0x02], .rlcD), ([0xCB, 0x03], .rlcE),
    ([0xCB, 0x04], .rlcH), ([0xCB, 0x05], .rlcL), ([0xCB, 0x06], .rlcIndHl), ([0xCB, 0x07], .rlcA),
    ([0xCB, 0x08], .rrcB), ([0xCB, 0x09], .rrcC), ([0xCB, 0x0A], .rrcD), ([0xCB, 0x0B], .rrcE),
    ([0xCB, 0x0C], .rrcH), ([0xCB, 0x0D], .rrcL), ([0xCB, 0x0E], .rrcIndHl), ([0xCB, 0x0F], .rrcA)] : List (List Byte × Instr)),
    decode x.1 = .ok (x.2, []) := by decide

theorem test_decode_secondary_1x : ∀ x ∈ ([
    ([0xCB, 0x10], .rlB), ([0xCB, 0x11], .rlC), ([0xCB, 0x12], .rlD), ([0xCB, 0x13], .rlE),
    ([0xCB, 0x14], .rlH), ([0xCB, 0x15], .rlL), ([0xCB, 0x16], .rlIndHl), ([0xCB, 0x17], .rlA),
    ([0xCB, 0x18], .rrB), ([0xCB, 0x19], .rrC), ([0xCB, 0x1A], .rrD), ([0xCB, 0x1B], .rrE),
    ([0xCB, 0x1C], .rrH), ([0xCB, 0x1D], .rrL), ([0xCB, 0x1E], .rrIndHl), ([0xCB, 0x1F], .rrA)] : List (List Byte × Instr)),
    decode x.1 = .ok (x.2, []) := by decide

theorem test_decode_secondary_2x : ∀ x ∈ ([
    ([0xCB, 0x20], .slaB), ([0xCB, 0x21], .slaC), ([0xCB, 0x22], .slaD), ([0xCB, 0x23], .slaE),
    ([0xCB, 0x24], .slaH), ([0xCB, 0x25], .slaL), ([0xCB, 0x26], .slaIndHl), ([0xCB, 0x27], .slaA),
    ([0xCB, 0x28], .sraB), ([0xCB, 0x29], .sraC), ([0xCB, 0x2A], .sraD), ([0xCB, 0x2B], .sraE),
    ([0xCB, 0x2C], .sraH), ([0xCB, 0x2D], .sraL), ([0xCB, 0x2E], .sraIndHl), ([0xCB, 0x2F], .sraA)] : List (List Byte × Instr)),
    decode x.1 = .ok (x.2, []) := by decide

theorem test_decode_secondary_3x : ∀ x ∈ ([
    ([0xCB, 0x30], .swapB), ([0xCB, 0x31], .swapC), ([0xCB, 0x32], .swapD), ([0xCB, 0x33], .swapE),
    ([0xCB, 0x34], .swapH), ([0xCB, 0x35], .swapL), ([0xCB, 0x36], .swapIndHl), ([0xCB, 0x37], .swapA),
    ([0xCB, 0x38], .srlB), ([0xCB, 0x39], .srlC), ([0xCB, 0x3A], .srlD), ([0xCB, 0x3B], .srlE),
    ([0xCB, 0x3C], .srlH), ([0xCB, 0x3D], .srlL), ([0xCB, 0x3E], .srlIndHl), ([0xCB, 0x3F], .srlA)] : List (List Byte × Instr)),
    decode x.1 = .ok (x.2, []) := by decide

theorem test_decode_secondary_4x : ∀ x ∈ ([
    ([0xCB, 0x40], .bit0B), ([0xCB, 0x41], .bit0C), ([0xCB, 0x42], .bit0D), ([0xCB, 0x43], .bit0E),
    ([0xCB, 0x44], .bit0H), ([0xCB, 0x45], .bit0L), ([0xCB, 0x46], .bit0IndHl), ([0xCB, 0x47], .bit0A),
    ([0xCB, 0x48], .bit1B), ([0xCB, 0x49], .bit1C), ([0xCB, 0x4A], .bit1D), ([0xCB, 0x4B], .bit1E),
    ([0xCB, 0x4C], .bit1H), ([0xCB, 0x4D], .bit1L), ([0xCB, 0x4E], .bit1IndHl), ([0xCB, 0x4F], .bit1A)] : List (List Byte × Instr)),
    decode x.1 = .ok (x.2, []) := by decide

theorem test_decode_secondary_5x : ∀ x ∈ ([
    ([0xCB, 0x50], .bit2B), ([0xCB, 0x51], .bit2C), ([0xCB, 0x52], .bit2D), ([0xCB, 0x53], .bit2E),
    ([0xCB, 0x54], .bit2H), ([0xCB, 0x55], .bit2L), ([0xCB, 0x56], .bit2IndHl), ([0xCB, 0x57], .bit2A),
    ([0xCB, 0x58], .bit3B), ([0xCB, 0x59], .bit3C), ([0xCB, 0x5A], .bit3D), ([0xCB, 0x5B], .bit3E),
    ([0xCB, 0x5C], .bit3H), ([0xCB, 0x5D], .bit3L), ([0xCB, 0x5E], .bit3IndHl), ([0xCB, 0x5F], .bit3A)] : List (List Byte × Instr)),
    decode x.1 = .ok (x.2, []) := by decide

theorem test_decode_secondary_6x : ∀ x ∈ ([
    ([0xCB, 0x60], .bit4B), ([0xCB, 0x61], .bit4C), ([0xCB, 0x62], .bit4D), ([0xCB, 0x63], .bit4E),
    ([0xCB, 0x64], .bit4H), ([0xCB, 0x65], .bit4L), ([0xCB, 0x66], .bit4IndHl), ([0xCB, 0x67], .bit4A),
    ([0xCB, 0x68], .bit5B), ([0xCB, 0x69], .bit5C), ([0xCB, 0x6A], .bit5D), ([0xCB, 0x6B], .bit5E),
    ([0xCB, 0x6C], .bit5H), ([0xCB, 0x6D], .bit5L), ([0xCB, 0x6E], .bit5IndHl), ([0xCB, 0x6F], .bit5A)] : List (List Byte × Instr)),
    decode x.1 = .ok (x.2, []) := by decide

theorem test_decode_secondary_7x : ∀ x ∈ ([
    ([0xCB, 0x70], .bit6B), ([0xCB, 0x71], .bit6C), ([0xCB, 0x72], .bit6D), ([0xCB, 0x73], .bit6E),
    ([0xCB, 0x74], .bit6H), ([0xCB, 0x75], .bit6L), ([0xCB, 0x76], .bit6IndHl), ([0xCB, 0x77], .bit6A),
    ([0xCB, 0x78], .bit7B), ([0xCB, 0x79], .bit7C), ([0xCB, 0x7A], .bit7D), ([0xCB, 0x7B], .bit7E),
    ([0xCB, 0x7C], .bit7H), ([0xCB, 0x7D], .bit7L), ([0xCB, 0x7E], .bit7IndHl), ([0xCB, 0x7F], .bit7A)] : List (List Byte × Instr)),
    decode x.1 = .ok (x.2, []) := by decide

theorem test_decode_secondary_8x : ∀ x ∈ ([
    ([0xCB, 0x80], .res0B), ([0xCB, 0x81], .res0C), ([0xCB, 0x82], .res0D), ([0xCB, 0x83], .res0E),
    ([0xCB, 0x84], .res0H), ([0xCB, 0x85], .res0L), ([0xCB, 0x86], .res0IndHl), ([0xCB, 0x87], .res0A),
    ([0xCB, 0x88], .res1B), ([0xCB, 0x89], .res1C), ([0xCB, 0x8A], .res1D), ([0xCB, 0x8B], .res1E),
    ([0xCB, 0x8C], .res1H), ([0xCB, 0x8D], .res1L), ([0xCB, 0x8E], .res1IndHl), ([0xCB, 0x8F], .res1A)] : List (List Byte × Instr)),
    decode x.1 = .ok (x.2, []) := by decide

theorem test_decode_secondary_9x : ∀ x ∈ ([
    ([0xCB, 0x90], .res2B), ([0xCB, 0x91], .res2C), ([0xCB, 0x92], .res2D), ([0xCB, 0x93], .res2E),
    ([0xCB, 0x94], .res2H), ([0xCB, 0x95], .res2L), ([0xCB, 0x96], .res2IndHl), ([0xCB, 0x97], .res2A),
    ([0xCB, 0x98], .res3B), ([0xCB, 0x99], .res3C), ([0xCB, 0x9A], .res3D), ([0xCB, 0x9B], .res3E),
    ([0xCB, 0x9C], .res3H), ([0xCB, 0x9D], .res3L), ([0xCB, 0x9E], .res3IndHl), ([0xCB, 0x9F], .res3A)] : List (List Byte × Instr)),
    decode x.1 = .ok (x.2, []) := by decide

theorem test_decode_secondary_Ax : ∀ x ∈ ([
    ([0xCB, 0xA0], .res4B), ([0xCB, 0xA1], .res4C), ([0xCB, 0xA2], .res4D), ([0xCB, 0xA3], .res4E),
    ([0xCB, 0xA4], .res4H), ([0xCB, 0xA5], .res4L), ([0xCB, 0xA6], .res4IndHl), ([0xCB, 0xA7], .res4A),
    ([0xCB, 0xA8], .res5B), ([0xCB, 0xA9], .res5C), ([0xCB, 0xAA], .res5D), ([0xCB, 0xAB], .res5E),
    ([0xCB, 0xAC], .res5H), ([0xCB, 0xAD], .res5L), ([0xCB, 0xAE], .res5IndHl), ([0xCB, 0xAF], .res5A)] : List (List Byte × Instr)),
    decode x.1 = .ok (x.2, []) := by decide

theorem test_decode_secondary_Bx : ∀ x ∈ ([
    ([0xCB, 0xB0], .res6B), ([0xCB, 0xB1], .res6C), ([0xCB, 0xB2], .res6D), ([0xCB, 0xB3], .res6E),
    ([0xCB, 0xB4], .res6H), ([0xCB, 0xB5], .res6L), ([0xCB, 0xB6], .res6IndHl), ([0xCB, 0xB7], .res6A),
    ([0xCB, 0xB8], .res7B), ([0xCB, 0xB9], .res7C), ([0xCB, 0xBA], .res7D), ([0xCB, 0xBB], .res7E),
    ([0xCB, 0xBC], .res7H), ([0xCB, 0xBD], .res7L), ([0xCB, 0xBE], .res7IndHl), ([0xCB, 0xBF], .res7A)] : List (List Byte × Instr)),
    decode x.1 = .ok (x.2, []) := by decide

theorem test_decode_secondary_Cx : ∀ x ∈ ([
    ([0xCB, 0xC0], .set0B), ([0xCB, 0xC1], .set0C), ([0xCB, 0xC2], .set0D), ([0xCB, 0xC3], .set0E),
    ([0xCB, 0xC4], .set0H), ([0xCB, 0xC5], .set0L), ([0xCB, 0xC6], .set0IndHl), ([0xCB, 0xC7], .set0A),
    ([0xCB, 0xC8], .set1B), ([0xCB, 0xC9], .set1C), ([0xCB, 0xCA], .set1D), ([0xCB, 0xCB], .set1E),
    ([0xCB, 0xCC], .set1H), ([0xCB, 0xCD], .set1L), ([0xCB, 0xCE], .set1IndHl), ([0xCB, 0xCF], .set1A)] : List (List Byte × Instr)),
    decode x.1 = .ok (x.2, []) := by decide

theorem test_decode_secondary_Dx : ∀ x ∈ ([
    ([0xCB, 0xD0], .set2B), ([0xCB, 0xD1], .set2C), ([0xCB, 0xD2], .set2D), ([0xCB, 0xD3], .set2E),
    ([0xCB, 0xD4], .set2H), ([0xCB, 0xD5], .set2L), ([0xCB, 0xD6], .set2IndHl), ([0xCB, 0xD7], .set2A),
    ([0xCB, 0xD8], .set3B), ([0xCB, 0xD9], .set3C), ([0xCB, 0xDA], .set3D), ([0xCB, 0xDB], .set3E),
    ([0xCB, 0xDC], .set3H), ([0xCB, 0xDD], .set3L), ([0xCB, 0xDE], .set3IndHl), ([0xCB, 0xDF], .set3A)] : List (List Byte × Instr)),
    decode x.1 = .ok (x.2, []) := by decide

theorem test_decode_secondary_Ex : ∀ x ∈ ([
    ([0xCB, 0xE0], .set4B), ([0xCB, 0xE1], .set4C), ([0xCB, 0xE2], .set4D), ([0xCB, 0xE3], .set4E),
    ([0xCB, 0xE4], .set4H), ([0xCB, 0xE5], .set4L), ([0xCB, 0xE6], .set4IndHl), ([0xCB, 0xE7], .set4A),
    ([0xCB, 0xE8], .set5B), ([0xCB, 0xE9], .set5C), ([0xCB, 0xEA], .set5D), ([0xCB, 0xEB], .set5E),
    ([0xCB, 0xEC], .set5H), ([0xCB, 0xED], .set5L), ([0xCB, 0xEE], .set5IndHl), ([0xCB, 0xEF], .set5A)] : List (List Byte × Instr)),
    decode x.1 = .ok (x.2, []) := by decide

theorem test_decode_secondary_Fx : ∀ x ∈ ([
    ([0xCB, 0xF0], .set6B), ([0xCB, 0xF1], .set6C), ([0xCB, 0xF2], .set6D), ([0xCB, 0xF3], .set6E),
    ([0xCB, 0xF4], .set6H), ([0xCB, 0xF5], .set6L), ([0xCB, 0xF6], .set6IndHl), ([0xCB, 0xF7], .set6A),
    ([0xCB, 0xF8], .set7B), ([0xCB, 0xF9], .set7C), ([0xCB, 0xFA], .set7D), ([0xCB, 0xFB], .set7E),
    ([0xCB, 0xFC], .set7H), ([0xCB, 0xFD], .set7L), ([0xCB, 0xFE], .set7IndHl), ([0xCB, 0xFF], .set7A)] : List (List Byte × Instr)),
    decode x.1 = .ok (x.2, []) := by decide

/-! A word of each family written out bit by bit, from the encoding its rule gives. -/

theorem test_bits_nop_stop_halt : decode [0b00_000_000] = .ok (.nop, []) ∧
    decode [0b00_010_000, 0x00] = .ok (.stop 0x00, []) ∧ decode [0b01_110_110] = .ok (.halt, []) := by decide

/-- `01 ddd sss`: E is 011, H is 100 (40_load8 R150, 30_encoding R124). -/
theorem test_bits_ld_r_r : decode [0b01_011_100] = .ok (.ldEH, []) := by decide

/-- `00 ddd 110`: L is 101 (40_load8 R151). -/
theorem test_bits_ld_r_d8 : decode [0b00_101_110, 0x42] = .ok (.ldLD8 0x42, []) := by decide

theorem test_bits_ld_through_an_address : decode [0b00_10_1010] = .ok (.ldAIndHlInc, []) ∧
    decode [0b00_01_0010] = .ok (.ldIndDeA, []) ∧ decode [0b111_00000, 0x47] = .ok (.ldhIndA8A 0x47, []) ∧
    decode [0b111_10010] = .ok (.ldhAIndC, []) ∧ decode [0b111_11010, 0x34, 0x12] = .ok (.ldAIndA16 0x1234, []) := by decide

/-- `00 rr 0001`, `11 rr 0101`, `11 rr 0001`: HL is 10, AF is 11 (41_load16_stack R180, R184, R185). -/
theorem test_bits_load16_stack : decode [0b00_10_0001, 0xCD, 0xAB] = .ok (.ldHlD16 0xABCD, []) ∧
    decode [0b11_10_0101] = .ok (.pushHl, []) ∧ decode [0b11_11_0001] = .ok (.popAf, []) := by decide

/-- `10 ooo sss` and `11 ooo 110`: SBC is 011, XOR is 101 (42_alu8 R200, 30_encoding R128). -/
theorem test_bits_alu8 : decode [0b10_011_010] = .ok (.sbcAD, []) ∧ decode [0b11_101_110, 0x0F] = .ok (.xorD8 0x0F, []) ∧
    decode [0b00_110_101] = .ok (.decIndHl, []) ∧ decode [0b00_100_111] = .ok (.daa, []) := by decide

/-- `00 rr 1001`, `00 rr 0011`, `00 rr 1011`: DE is 01, SP is 11 (43_alu16 R240 to R242). -/
theorem test_bits_alu16 : decode [0b00_01_1001] = .ok (.addHlDe, []) ∧ decode [0b00_11_0011] = .ok (.incSp, []) ∧
    decode [0b00_11_1011] = .ok (.decSp, []) ∧ decode [0b11_101_000, 0xFE] = .ok (.addSpE8 0xFE, []) := by decide

/-- `00 xxx yyy`, `01 bbb rrr`, `10 bbb rrr`, `11 bbb rrr` after 0xCB (44_rotate_shift_bit R254, R263 to R265). -/
theorem test_bits_rotate_shift_bit : decode [0b11001011, 0b00_101_001] = .ok (.sraC, []) ∧
    decode [0b11001011, 0b01_111_110] = .ok (.bit7IndHl, []) ∧ decode [0b11001011, 0b10_001_011] = .ok (.res1E, []) ∧
    decode [0b11001011, 0b11_110_111] = .ok (.set6A, []) ∧ decode [0b00_001_111] = .ok (.rrca, []) := by decide

/-- `11 0cc 010`, `00 1cc 000`, `11 0cc 100`, `11 0cc 000`, `11 yyy 111`: NC is 10 (45_control R281 to R290). -/
theorem test_bits_control : decode [0b11_010_010, 0x00, 0x40] = .ok (.jpNcA16 0x4000, []) ∧
    decode [0b00_110_000, 0x05] = .ok (.jrNcE8 0x05, []) ∧ decode [0b11_010_100, 0x00, 0x40] = .ok (.callNcA16 0x4000, []) ∧
    decode [0b11_010_000] = .ok (.retNc, []) ∧ decode [0b11_101_111] = .ok (.rst28, []) ∧
    decode [0b11_011_001] = .ok (.reti, []) := by decide

/-- The words of the tables, the first byte in the lowest bits, and for a secondary row the second byte there (log 7). -/
theorem test_table_words : decodeTableWord 8 0x78 = some .ldAB ∧ decodeTableWord 16 0x4206 = some (.ldBD8 0x42) ∧
    decodeTableWord 24 0x1234C3 = some (.jpA16 0x1234) ∧ decodeTableWord 16 0xCB37 = some .swapA ∧
    decodeTableWord 8 0xCB = some .prefixCb := by decide
/-! Single steps, with the results of 95_test_vectors. -/

/-- 95_test_vectors V1 (R150): `LD B,B`. -/
theorem test_V1_ld_b_b :
    (after (begin { base with b := 0x77, f := 0xB0 } clear [(0x0100, 0x40)])).map
      (fun t => (t.cpu.pc, t.cycles)) =
      some (0x0101, 4) := by decide

/-- 95_test_vectors V3 (R151): `LD H,0xFF`. -/
theorem test_V3_ld_h_0xff :
    (after (begin { base with h := 0x01, f := 0x00 } clear [(0x0100, 0x26), (0x0101, 0xFF)])).map
      (fun t => (t.cpu.h, t.cpu.pc, t.cycles)) =
      some (0xFF, 0x0102, 8) := by decide

/-- 95_test_vectors V4 (R152): `LD E,(HL)`. -/
theorem test_V4_ld_e_ind_hl :
    (after (begin { base with h := 0xA0, l := 0x00, e := 0x00, f := 0x00 } clear [(0x0100, 0x5E)])).map
      (fun t => (t.cpu.e, t.cpu.pc, t.cycles)) =
      some (0xFF, 0x0101, 8) := by decide

/-- 95_test_vectors V5 (R152): `LD L,(HL)`. -/
theorem test_V5_ld_l_ind_hl :
    (after (begin { base with h := 0xC0, l := 0x05, f := 0x00 } clear [(0x0100, 0x6E), (0xC005, 0x99)])).map
      (fun t => (t.cpu.l, t.cpu.pc, t.cycles)) =
      some (0x99, 0x0101, 8) := by decide

/-- 95_test_vectors V6 (R153): `LD (HL),H`. -/
theorem test_V6_ld_ind_hl_h :
    (after (begin { base with h := 0xC0, l := 0xC0, f := 0x00 } clear [(0x0100, 0x74)])).map
      (fun t => (t.cpu.pc, busRead t 0xC0C0, t.cycles)) =
      some (0x0101, 0xC0, 8) := by decide

/-- 95_test_vectors V8 (R154): `LD (HL),0xAB`. -/
theorem test_V8_ld_ind_hl_0xab :
    (after (begin { base with h := 0xFE, l := 0x9F, f := 0x00 } clear [(0x0100, 0x36), (0x0101, 0xAB)])).map
      (fun t => (t.cpu.pc, busRead t 0xFE9F, t.cycles)) =
      some (0x0102, 0xAB, 12) := by decide

/-- 95_test_vectors V9 (R154): `LD (HL),0xAB`. -/
theorem test_V9_ld_ind_hl_0xab :
    (after (begin { base with h := 0xFE, l := 0xA0, f := 0x00 } clear [(0x0100, 0x36), (0x0101, 0xAB)])).map
      (fun t => (t.cpu.pc, busRead t 0xFEA0, t.cycles)) =
      some (0x0102, 0xFF, 12) := by decide

/-- 95_test_vectors V10 (R155): `LD A,(BC)`. -/
theorem test_V10_ld_a_ind_bc :
    (after (begin { base with b := 0xFF, c := 0x0F, a := 0x00, f := 0x00 } { clear with ifl := 1 } [(0x0100, 0x0A)])).map
      (fun t => (t.cpu.a, t.cpu.pc, t.cycles)) =
      some (0xE1, 0x0101, 8) := by decide

/-- 95_test_vectors V11 (R156): `LD A,(DE)`. -/
theorem test_V11_ld_a_ind_de :
    (after (begin { base with d := 0xE0, e := 0x10, a := 0x00, f := 0x00 } clear [(0x0100, 0x1A), (0xC010, 0x4D)])).map
      (fun t => (t.cpu.a, t.cpu.pc, t.cycles)) =
      some (0x4D, 0x0101, 8) := by decide

/-- 95_test_vectors V12 (R157): `LD (BC),A`. -/
theorem test_V12_ld_ind_bc_a :
    (after (begin { base with b := 0xFD, c := 0xFF, a := 0x6B, f := 0x00 } clear [(0x0100, 0x02)])).map
      (fun t => (t.cpu.pc, busRead t 0xFDFF, t.cycles)) =
      some (0x0101, 0x6B, 8) := by decide

/-- 95_test_vectors V13 (R158): `LD (DE),A`. -/
theorem test_V13_ld_ind_de_a :
    (after (begin { base with d := 0xFF, e := 0xFF, a := 0x1F, f := 0x00 } clear [(0x0100, 0x12)])).map
      (fun t => (t.cpu.pc, t.irq.ie, t.cycles)) =
      some (0x0101, 0x1F, 8) := by decide

/-- 95_test_vectors V14 (R159): `LD A,(0xFEA0)`. -/
theorem test_V14_ld_a_ind_0xfea0 :
    (after (begin { base with a := 0x00, f := 0x00 } clear [(0x0100, 0xFA), (0x0101, 0xA0), (0x0102, 0xFE)])).map
      (fun t => (t.cpu.a, t.cpu.pc, t.cycles)) =
      some (0xFF, 0x0103, 16) := by decide

/-- 95_test_vectors V16 (R160): `LD (0xE000),A`. -/
theorem test_V16_ld_ind_0xe000_a :
    (after (begin { base with a := 0x42, f := 0x00 } clear [(0x0100, 0xEA), (0x0101, 0x00), (0x0102, 0xE0)])).map
      (fun t => (t.cpu.pc, busRead t 0xE000, t.cycles)) =
      some (0x0103, 0x42, 16) := by decide

/-- 95_test_vectors V17 (R161): `LDH A,(C)`. -/
theorem test_V17_ldh_a_ind_c :
    (after (begin { base with c := 0x00, a := 0x00, f := 0x00 } { clear with ifl := 1 } [(0x0100, 0xF2)])).map
      (fun t => (t.cpu.a, t.cpu.pc, t.cycles)) =
      some (0xCF, 0x0101, 8) := by decide

/-- 95_test_vectors V19 (R162): `LDH (C),A`. -/
theorem test_V19_ldh_ind_c_a :
    (after (begin { base with c := 0x41, a := 0xFF, f := 0x00 } clear [(0x0100, 0xE2)])).map
      (fun t => (t.cpu.pc, t.ppu.statEnables, t.cycles)) =
      some (0x0101, 15, 8) := by decide

/-- 95_test_vectors V20 (R163): `LDH A,(0x04)`. -/
theorem test_V20_ldh_a_ind_0x04 :
    (after (begin { base with a := 0x00, f := 0x00 } clear [(0x0100, 0xF0), (0x0101, 0x04)])).map
      (fun t => (t.cpu.a, t.cpu.pc, t.cycles)) =
      some (0xAB, 0x0102, 12) := by decide

/-- 95_test_vectors V21 (R164): `LDH (0x04),A`. -/
theorem test_V21_ldh_ind_0x04_a :
    (after (begin { base with a := 0x77, f := 0x00 } clear [(0x0100, 0xE0), (0x0101, 0x04)])).map
      (fun t => (t.cpu.pc, t.timer.sysCounter, t.cycles)) =
      some (0x0102, 0, 12) := by decide

/-- 95_test_vectors V23 (R165): `LD A,(HL-)`. -/
theorem test_V23_ld_a_ind_hl :
    (after (begin { base with h := 0x00, l := 0x00, a := 0x55, f := 0x00 } clear [(0x0100, 0x3A)])).map
      (fun t => (t.cpu.a, t.cpu.h, t.cpu.l, t.cpu.pc, t.cycles)) =
      some (0x00, 0xFF, 0xFF, 0x0101, 8) := by decide

/-- 95_test_vectors V24 (R166): `LD (HL-),A`. -/
theorem test_V24_ld_ind_hl_a :
    (after (begin { base with h := 0xC0, l := 0x00, a := 0x42, f := 0x00 } clear [(0x0100, 0x32)])).map
      (fun t => (t.cpu.h, t.cpu.l, t.cpu.pc, busRead t 0xC000, t.cycles)) =
      some (0xBF, 0xFF, 0x0101, 0x42, 8) := by decide

/-- 95_test_vectors V25 (R167): `LD A,(HL+)`. -/
theorem test_V25_ld_a_ind_hl :
    (after (begin { base with h := 0xFF, l := 0xFF, a := 0x00, f := 0x00 } { clear with ie := 0x1F } [(0x0100, 0x2A)])).map
      (fun t => (t.cpu.a, t.cpu.h, t.cpu.l, t.cpu.pc, t.cycles)) =
      some (0x1F, 0x00, 0x00, 0x0101, 8) := by decide

/-- 95_test_vectors V26 (R168): `LD (HL+),A`. -/
theorem test_V26_ld_ind_hl_a :
    (after (begin { base with h := 0xFF, l := 0xFF, a := 0x05, f := 0x00 } clear [(0x0100, 0x22)])).map
      (fun t => (t.cpu.h, t.cpu.l, t.cpu.pc, t.irq.ie, t.cycles)) =
      some (0x00, 0x00, 0x0101, 0x05, 8) := by decide

/-- 95_test_vectors V27 (R180): `LD SP,0xD000`. -/
theorem test_V27_ld_sp_0xd000 :
    (after (begin { base with f := 0x00 } clear [(0x0100, 0x31), (0x0101, 0x00), (0x0102, 0xD0)])).map
      (fun t => (t.cpu.sp, t.cpu.pc, t.cycles)) =
      some (0xD000, 0x0103, 12) := by decide

/-- 95_test_vectors V29 (R181): `LD (0xFFFF),SP`. -/
theorem test_V29_ld_ind_0xffff_sp :
    (after (begin { base with sp := 0x1234, f := 0x00 } clear [(0x0100, 0x08), (0x0101, 0xFF), (0x0102, 0xFF)])).map
      (fun t => (t.cpu.pc, t.irq.ie, busRead t 0x0000, t.cycles)) =
      some (0x0103, 0x34, 0x00, 20) := by decide

/-- 95_test_vectors V30 (R182): `LD SP,HL`. -/
theorem test_V30_ld_sp_hl :
    (after (begin { base with h := 0x00, l := 0x00, f := 0xF0 } clear [(0x0100, 0xF9)])).map
      (fun t => (t.cpu.sp, t.cpu.pc, t.cycles)) =
      some (0x0000, 0x0101, 8) := by decide

/-- 95_test_vectors V31 (R183): `LD HL,SP+(-1)`. -/
theorem test_V31_ld_hl_sp_ind_1 :
    (after (begin { base with sp := 0x0000, h := 0x11, l := 0x11, f := 0xF0 } clear [(0x0100, 0xF8), (0x0101, 0xFF)])).map
      (fun t => (t.cpu.f, t.cpu.h, t.cpu.l, t.cpu.pc, t.cycles)) =
      some (0x00, 0xFF, 0xFF, 0x0102, 12) := by decide

/-- 95_test_vectors V35 (R184): `PUSH AF`. -/
theorem test_V35_push_af :
    (after (begin { base with a := 0x12, f := 0xB0, sp := 0xD000 } clear [(0x0100, 0xF5)])).map
      (fun t => (t.cpu.sp, t.cpu.pc, busRead t 0xCFFF, busRead t 0xCFFE, t.cycles)) =
      some (0xCFFE, 0x0101, 0x12, 0xB0, 16) := by decide

/-- 95_test_vectors V36 (R184): `PUSH HL`. -/
theorem test_V36_push_hl :
    (after (begin { base with h := 0xBE, l := 0xEF, sp := 0x0001, f := 0x00 } clear [(0x0100, 0xE5)])).map
      (fun t => (t.cpu.sp, t.cpu.pc, t.irq.ie, busRead t 0x0000, t.cycles)) =
      some (0xFFFF, 0x0101, 0xEF, 0x00, 16) := by decide

/-- 95_test_vectors V37 (R185): `POP BC`. -/
theorem test_V37_pop_bc :
    (after (begin { base with sp := 0xFFFF, b := 0x00, c := 0x00, f := 0x00 } { clear with ie := 0x3C }
        [(0x0100, 0xC1)])).map
      (fun t => (t.cpu.c, t.cpu.sp, t.cpu.pc, t.cycles)) =
      some (0x3C, 0x0001, 0x0101, 12) := by decide

/-- 95_test_vectors V39 (R186): `POP AF`. -/
theorem test_V39_pop_af :
    (after (begin { base with sp := 0xC000, a := 0x55, f := 0xF0 } clear
        [(0x0100, 0xF1), (0xC000, 0x0F), (0xC001, 0x00)])).map
      (fun t => (t.cpu.a, t.cpu.f, t.cpu.sp, t.cpu.pc, t.cycles)) =
      some (0x00, 0x00, 0xC002, 0x0101, 12) := by decide

/-- 95_test_vectors V40 (R186): `POP AF`. -/
theorem test_V40_pop_af :
    (after (begin { base with sp := 0xC000, a := 0x55, f := 0x00 } clear
        [(0x0100, 0xF1), (0xC000, 0xA5), (0xC001, 0x99)])).map
      (fun t => (t.cpu.a, t.cpu.f, t.cpu.sp, t.cpu.pc, t.cycles)) =
      some (0x99, 0xA0, 0xC002, 0x0101, 12) := by decide

/-- 95_test_vectors V41 (R201): `ADD A,0x01`. -/
theorem test_V41_add_a_0x01 :
    (after (begin { base with a := 0xFF, f := 0x00 } clear [(0x0100, 0xC6), (0x0101, 0x01)])).map
      (fun t => (t.cpu.a, t.cpu.f, t.cpu.pc, t.cycles)) =
      some (0x00, 0xB0, 0x0102, 8) := by decide

/-- 95_test_vectors V44 (R202): `ADC A,0xFF`. -/
theorem test_V44_adc_a_0xff :
    (after (begin { base with a := 0x00, f := 0x10 } clear [(0x0100, 0xCE), (0x0101, 0xFF)])).map
      (fun t => (t.cpu.f, t.cpu.pc, t.cycles)) =
      some (0xB0, 0x0102, 8) := by decide

/-- 95_test_vectors V47 (R203): `SUB A`. -/
theorem test_V47_sub_a :
    (after (begin { base with a := 0x5C, f := 0x10 } clear [(0x0100, 0x97)])).map
      (fun t => (t.cpu.a, t.cpu.f, t.cpu.pc, t.cycles)) =
      some (0x00, 0xC0, 0x0101, 4) := by decide

/-- 95_test_vectors V50 (R204): `SBC A,0xFF`. -/
theorem test_V50_sbc_a_0xff :
    (after (begin { base with a := 0x00, f := 0x10 } clear [(0x0100, 0xDE), (0x0101, 0xFF)])).map
      (fun t => (t.cpu.f, t.cpu.pc, t.cycles)) =
      some (0xF0, 0x0102, 8) := by decide

/-- 95_test_vectors V51 (R204): `SBC A,0x0F`. -/
theorem test_V51_sbc_a_0x0f :
    (after (begin { base with a := 0x10, f := 0x10 } clear [(0x0100, 0xDE), (0x0101, 0x0F)])).map
      (fun t => (t.cpu.a, t.cpu.f, t.cpu.pc, t.cycles)) =
      some (0x00, 0xE0, 0x0102, 8) := by decide

/-- 95_test_vectors V54 (R205): `AND A`. -/
theorem test_V54_and_a :
    (after (begin { base with a := 0x00, f := 0x50 } clear [(0x0100, 0xA7)])).map
      (fun t => (t.cpu.f, t.cpu.pc, t.cycles)) =
      some (0xA0, 0x0101, 4) := by decide

/-- 95_test_vectors V56 (R206): `XOR A`. -/
theorem test_V56_xor_a :
    (after (begin { base with a := 0x5C, f := 0x70 } clear [(0x0100, 0xAF)])).map
      (fun t => (t.cpu.a, t.cpu.f, t.cpu.pc, t.cycles)) =
      some (0x00, 0x80, 0x0101, 4) := by decide

/-- 95_test_vectors V58 (R207): `OR B`. -/
theorem test_V58_or_b :
    (after (begin { base with a := 0x00, b := 0x00, f := 0x70 } clear [(0x0100, 0xB0)])).map
      (fun t => (t.cpu.f, t.cpu.pc, t.cycles)) =
      some (0x80, 0x0101, 4) := by decide

/-- 95_test_vectors V60 (R208): `CP A`. -/
theorem test_V60_cp_a :
    (after (begin { base with a := 0x5C, f := 0x00 } clear [(0x0100, 0xBF)])).map
      (fun t => (t.cpu.f, t.cpu.pc, t.cycles)) =
      some (0xC0, 0x0101, 4) := by decide

/-- 95_test_vectors V62 (R208): `CP (HL)`. -/
theorem test_V62_cp_ind_hl :
    (after (begin { base with a := 0x10, h := 0xC0, l := 0x00, f := 0x00 } clear [(0x0100, 0xBE), (0xC000, 0x01)])).map
      (fun t => (t.cpu.f, t.cpu.pc, t.cycles)) =
      some (0x60, 0x0101, 8) := by decide

/-- 95_test_vectors V63 (R209): `INC B`. -/
theorem test_V63_inc_b :
    (after (begin { base with b := 0x0F, f := 0x10 } clear [(0x0100, 0x04)])).map
      (fun t => (t.cpu.f, t.cpu.b, t.cpu.pc, t.cycles)) =
      some (0x30, 0x10, 0x0101, 4) := by decide

/-- 95_test_vectors V65 (R210): `INC (HL)`. -/
theorem test_V65_inc_ind_hl :
    (after (begin { base with h := 0xC0, l := 0x00, f := 0x10 } clear [(0x0100, 0x34), (0xC000, 0xFF)])).map
      (fun t => (t.cpu.f, t.cpu.pc, busRead t 0xC000, t.cycles)) =
      some (0xB0, 0x0101, 0x00, 12) := by decide

/-- 95_test_vectors V67 (R211): `DEC B`. -/
theorem test_V67_dec_b :
    (after (begin { base with b := 0x10, f := 0x00 } clear [(0x0100, 0x05)])).map
      (fun t => (t.cpu.f, t.cpu.b, t.cpu.pc, t.cycles)) =
      some (0x60, 0x0F, 0x0101, 4) := by decide

/-- 95_test_vectors V70 (R212): `DEC (HL)`. -/
theorem test_V70_dec_ind_hl :
    (after (begin { base with h := 0xFF, l := 0x80, f := 0x10 } clear [(0x0100, 0x35), (0xFF80, 0x01)])).map
      (fun t => (t.cpu.f, t.cpu.pc, busRead t 0xFF80, t.cycles)) =
      some (0xD0, 0x0101, 0x00, 12) := by decide

/-- 95_test_vectors V71 (R213): `DAA`. -/
theorem test_V71_daa :
    (after (begin { base with a := 0x9A, f := 0x00 } clear [(0x0100, 0x27)])).map
      (fun t => (t.cpu.a, t.cpu.f, t.cpu.pc, t.cycles)) =
      some (0x00, 0x90, 0x0101, 4) := by decide

/-- 95_test_vectors V72 (R213): `DAA`. -/
theorem test_V72_daa :
    (after (begin { base with a := 0x00, f := 0x70 } clear [(0x0100, 0x27)])).map
      (fun t => (t.cpu.a, t.cpu.f, t.cpu.pc, t.cycles)) =
      some (0x9A, 0x50, 0x0101, 4) := by decide

/-- 95_test_vectors V74 (R213): `DAA`. -/
theorem test_V74_daa :
    (after (begin { base with a := 0x99, f := 0x20 } clear [(0x0100, 0x27)])).map
      (fun t => (t.cpu.a, t.cpu.f, t.cpu.pc, t.cycles)) =
      some (0x9F, 0x00, 0x0101, 4) := by decide

/-- 95_test_vectors V76 (R213): `DAA`. -/
theorem test_V76_daa :
    (after (begin { base with a := 0xFF, f := 0xB0 } clear [(0x0100, 0x27)])).map
      (fun t => (t.cpu.a, t.cpu.f, t.cpu.pc, t.cycles)) =
      some (0x65, 0x10, 0x0101, 4) := by decide

/-- 95_test_vectors V77 (R214): `CPL`. -/
theorem test_V77_cpl :
    (after (begin { base with a := 0x00, f := 0x10 } clear [(0x0100, 0x2F)])).map
      (fun t => (t.cpu.a, t.cpu.f, t.cpu.pc, t.cycles)) =
      some (0xFF, 0x70, 0x0101, 4) := by decide

/-- 95_test_vectors V79 (R215): `SCF`. -/
theorem test_V79_scf :
    (after (begin { base with f := 0x60 } clear [(0x0100, 0x37)])).map
      (fun t => (t.cpu.f, t.cpu.pc, t.cycles)) =
      some (0x10, 0x0101, 4) := by decide

/-- 95_test_vectors V81 (R216): `CCF`. -/
theorem test_V81_ccf :
    (after (begin { base with f := 0xF0 } clear [(0x0100, 0x3F)])).map
      (fun t => (t.cpu.f, t.cpu.pc, t.cycles)) =
      some (0x80, 0x0101, 4) := by decide

/-- 95_test_vectors V83 (R240): `ADD HL,BC`. -/
theorem test_V83_add_hl_bc :
    (after (begin { base with h := 0x0F, l := 0xFF, b := 0x00, c := 0x01, f := 0x80 } clear [(0x0100, 0x09)])).map
      (fun t => (t.cpu.f, t.cpu.h, t.cpu.l, t.cpu.pc, t.cycles)) =
      some (0xA0, 0x10, 0x00, 0x0101, 8) := by decide

/-- 95_test_vectors V85 (R240): `ADD HL,DE`. -/
theorem test_V85_add_hl_de :
    (after (begin { base with h := 0xFF, l := 0xFF, d := 0x00, e := 0x01, f := 0xC0 } clear [(0x0100, 0x19)])).map
      (fun t => (t.cpu.f, t.cpu.h, t.cpu.l, t.cpu.pc, t.cycles)) =
      some (0xB0, 0x00, 0x00, 0x0101, 8) := by decide

/-- 95_test_vectors V87 (R241): `INC BC`. -/
theorem test_V87_inc_bc :
    (after (begin { base with b := 0xFF, c := 0xFF, f := 0x00 } clear [(0x0100, 0x03)])).map
      (fun t => (t.cpu.b, t.cpu.c, t.cpu.pc, t.cycles)) =
      some (0x00, 0x00, 0x0101, 8) := by decide

/-- 95_test_vectors V90 (R242): `DEC DE`. -/
theorem test_V90_dec_de :
    (after (begin { base with d := 0x00, e := 0x00, f := 0x00 } clear [(0x0100, 0x1B)])).map
      (fun t => (t.cpu.d, t.cpu.e, t.cpu.pc, t.cycles)) =
      some (0xFF, 0xFF, 0x0101, 8) := by decide

/-- 95_test_vectors V93 (R243): `ADD SP,-1`. -/
theorem test_V93_add_sp_1 :
    (after (begin { base with sp := 0x0000, f := 0xF0 } clear [(0x0100, 0xE8), (0x0101, 0xFF)])).map
      (fun t => (t.cpu.f, t.cpu.sp, t.cpu.pc, t.cycles)) =
      some (0x00, 0xFFFF, 0x0102, 16) := by decide

/-- 95_test_vectors V96 (R243): `ADD SP,-128`. -/
theorem test_V96_add_sp_128 :
    (after (begin { base with sp := 0x0080, f := 0x00 } clear [(0x0100, 0xE8), (0x0101, 0x80)])).map
      (fun t => (t.cpu.f, t.cpu.sp, t.cpu.pc, t.cycles)) =
      some (0x10, 0x0000, 0x0102, 16) := by decide

/-- 95_test_vectors V98 (R250): `RLCA`. -/
theorem test_V98_rlca :
    (after (begin { base with a := 0x00, f := 0xF0 } clear [(0x0100, 0x07)])).map
      (fun t => (t.cpu.f, t.cpu.pc, t.cycles)) =
      some (0x00, 0x0101, 4) := by decide

/-- 95_test_vectors V100 (R251): `RRCA`. -/
theorem test_V100_rrca :
    (after (begin { base with a := 0x01, f := 0x80 } clear [(0x0100, 0x0F)])).map
      (fun t => (t.cpu.a, t.cpu.f, t.cpu.pc, t.cycles)) =
      some (0x80, 0x10, 0x0101, 4) := by decide

/-- 95_test_vectors V101 (R252): `RLA`. -/
theorem test_V101_rla :
    (after (begin { base with a := 0x80, f := 0x00 } clear [(0x0100, 0x17)])).map
      (fun t => (t.cpu.a, t.cpu.f, t.cpu.pc, t.cycles)) =
      some (0x00, 0x10, 0x0101, 4) := by decide

/-- 95_test_vectors V103 (R253): `RRA`. -/
theorem test_V103_rra :
    (after (begin { base with a := 0x01, f := 0x00 } clear [(0x0100, 0x1F)])).map
      (fun t => (t.cpu.a, t.cpu.f, t.cpu.pc, t.cycles)) =
      some (0x00, 0x10, 0x0101, 4) := by decide

/-- 95_test_vectors V105 (R255): `RLC A`. -/
theorem test_V105_rlc_a :
    (after (begin { base with a := 0x00, f := 0x70 } clear [(0x0100, 0xCB), (0x0101, 0x07)])).map
      (fun t => (t.cpu.f, t.cpu.pc, t.cycles)) =
      some (0x80, 0x0102, 8) := by decide

/-- 95_test_vectors V107 (R256): `RRC B`. -/
theorem test_V107_rrc_b :
    (after (begin { base with b := 0x00, f := 0x10 } clear [(0x0100, 0xCB), (0x0101, 0x08)])).map
      (fun t => (t.cpu.f, t.cpu.pc, t.cycles)) =
      some (0x80, 0x0102, 8) := by decide

/-- 95_test_vectors V109 (R257): `RL C`. -/
theorem test_V109_rl_c :
    (after (begin { base with c := 0x80, f := 0x10 } clear [(0x0100, 0xCB), (0x0101, 0x11)])).map
      (fun t => (t.cpu.c, t.cpu.pc, t.cycles)) =
      some (0x01, 0x0102, 8) := by decide

/-- 95_test_vectors V111 (R258): `RR D`. -/
theorem test_V111_rr_d :
    (after (begin { base with d := 0x00, f := 0x10 } clear [(0x0100, 0xCB), (0x0101, 0x1A)])).map
      (fun t => (t.cpu.f, t.cpu.d, t.cpu.pc, t.cycles)) =
      some (0x00, 0x80, 0x0102, 8) := by decide

/-- 95_test_vectors V112 (R258): `RR (HL)`. -/
theorem test_V112_rr_ind_hl :
    (after (begin { base with h := 0xC0, l := 0x00, f := 0x00 } clear [(0x0100, 0xCB), (0x0101, 0x1E), (0xC000, 0x01)])).map
      (fun t => (t.cpu.f, t.cpu.pc, busRead t 0xC000, t.cycles)) =
      some (0x90, 0x0102, 0x00, 16) := by decide

/-- 95_test_vectors V113 (R259): `SLA A`. -/
theorem test_V113_sla_a :
    (after (begin { base with a := 0x40, f := 0x10 } clear [(0x0100, 0xCB), (0x0101, 0x27)])).map
      (fun t => (t.cpu.a, t.cpu.f, t.cpu.pc, t.cycles)) =
      some (0x80, 0x00, 0x0102, 8) := by decide

/-- 95_test_vectors V115 (R260): `SRA B`. -/
theorem test_V115_sra_b :
    (after (begin { base with b := 0x01, f := 0x00 } clear [(0x0100, 0xCB), (0x0101, 0x28)])).map
      (fun t => (t.cpu.f, t.cpu.b, t.cpu.pc, t.cycles)) =
      some (0x90, 0x00, 0x0102, 8) := by decide

/-- 95_test_vectors V117 (R261): `SWAP (HL)`. -/
theorem test_V117_swap_ind_hl :
    (after (begin { base with h := 0xC0, l := 0x00, f := 0xF0 } clear [(0x0100, 0xCB), (0x0101, 0x36), (0xC000, 0xA5)])).map
      (fun t => (t.cpu.f, t.cpu.pc, busRead t 0xC000, t.cycles)) =
      some (0x00, 0x0102, 0x5A, 16) := by decide

/-- 95_test_vectors V119 (R262): `SRL A`. -/
theorem test_V119_srl_a :
    (after (begin { base with a := 0x01, f := 0x00 } clear [(0x0100, 0xCB), (0x0101, 0x3F)])).map
      (fun t => (t.cpu.a, t.cpu.f, t.cpu.pc, t.cycles)) =
      some (0x00, 0x90, 0x0102, 8) := by decide

/-- 95_test_vectors V121 (R263): `BIT 0,(HL)`. -/
theorem test_V121_bit_0_ind_hl :
    (after (begin { base with h := 0xC0, l := 0x00, f := 0x10 } clear [(0x0100, 0xCB), (0x0101, 0x46), (0xC000, 0xFE)])).map
      (fun t => (t.cpu.f, t.cpu.pc, t.cycles)) =
      some (0xB0, 0x0102, 12) := by decide

/-- 95_test_vectors V124 (R264): `RES 0,(HL)`. -/
theorem test_V124_res_0_ind_hl :
    (after (begin { base with h := 0xC0, l := 0x00, f := 0xF0 } clear [(0x0100, 0xCB), (0x0101, 0x86), (0xC000, 0xFF)])).map
      (fun t => (t.cpu.pc, busRead t 0xC000, t.cycles)) =
      some (0x0102, 0xFE, 16) := by decide

/-- 95_test_vectors V126 (R265): `SET 7,(HL)`. -/
theorem test_V126_set_7_ind_hl :
    (after (begin { base with h := 0x40, l := 0x00, f := 0x00 } clear [(0x0100, 0xCB), (0x0101, 0xFE)])).map
      (fun t => (t.cpu.pc, busRead t 0x4000, t.cycles)) =
      some (0x0102, 0x00, 16) := by decide

/-- 95_test_vectors V128 (R265): `SET 2,(HL)`. -/
theorem test_V128_set_2_ind_hl :
    (after (begin { base with h := 0xFF, l := 0x07, f := 0x00 } clear [(0x0100, 0xCB), (0x0101, 0xD6)])).map
      (fun t => (t.cpu.pc, t.timer.tac, t.cycles)) =
      some (0x0102, 4, 16) := by decide

/-- 95_test_vectors V129 (R280): `JP 0xC000`. -/
theorem test_V129_jp_0xc000 :
    (after (begin { base with f := 0x00 } clear [(0x0100, 0xC3), (0x0101, 0x00), (0x0102, 0xC0)])).map
      (fun t => (t.cpu.pc, t.cycles)) =
      some (0xC000, 16) := by decide

/-- 95_test_vectors V130 (R281): `JP NZ,0x0200`. -/
theorem test_V130_jp_nz_0x0200 :
    (after (begin { base with f := 0x80 } clear [(0x0100, 0xC2), (0x0101, 0x00), (0x0102, 0x02)])).map
      (fun t => (t.cpu.pc, t.cycles)) =
      some (0x0103, 12) := by decide

/-- 95_test_vectors V131 (R281): `JP NZ,0x0200`. -/
theorem test_V131_jp_nz_0x0200 :
    (after (begin { base with f := 0x00 } clear [(0x0100, 0xC2), (0x0101, 0x00), (0x0102, 0x02)])).map
      (fun t => (t.cpu.pc, t.cycles)) =
      some (0x0200, 16) := by decide

/-- 95_test_vectors V133 (R281): `JP NC,0x0200`. -/
theorem test_V133_jp_nc_0x0200 :
    (after (begin { base with f := 0x10 } clear [(0x0100, 0xD2), (0x0101, 0x00), (0x0102, 0x02)])).map
      (fun t => (t.cpu.pc, t.cycles)) =
      some (0x0103, 12) := by decide

/-- 95_test_vectors V134 (R282): `JP HL`. -/
theorem test_V134_jp_hl :
    (after (begin { base with h := 0xFF, l := 0x80, f := 0x00 } clear [(0x0100, 0xE9)])).map
      (fun t => (t.cpu.pc, t.cycles)) =
      some (0xFF80, 4) := by decide

/-- 95_test_vectors V135 (R283): `JR -2`. -/
theorem test_V135_jr_2 :
    (after (begin { base with f := 0x00 } clear [(0x0100, 0x18), (0x0101, 0xFE)])).map
      (fun t => (t.cycles)) =
      some (12) := by decide

/-- 95_test_vectors V139 (R283): `JR -3`. -/
theorem test_V139_jr_3 :
    (after (begin { base with pc := 0x0000, f := 0x00 } clear [(0x0000, 0x18), (0x0001, 0xFD)])).map
      (fun t => (t.cpu.pc, t.cycles)) =
      some (0xFFFF, 12) := by decide

/-- 95_test_vectors V140 (R284): `JR Z,+5`. -/
theorem test_V140_jr_z_5 :
    (after (begin { base with f := 0x80 } clear [(0x0100, 0x28), (0x0101, 0x05)])).map
      (fun t => (t.cpu.pc, t.cycles)) =
      some (0x0107, 12) := by decide

/-- 95_test_vectors V144 (R285): `CALL 0x1234`. -/
theorem test_V144_call_0x1234 :
    (after (begin { base with sp := 0x0000, f := 0x00 } clear [(0x0100, 0xCD), (0x0101, 0x34), (0x0102, 0x12)])).map
      (fun t => (t.cpu.sp, t.cpu.pc, t.irq.ie, busRead t 0xFFFE, t.cycles)) =
      some (0xFFFE, 0x1234, 0x01, 0x03, 24) := by decide

/-- 95_test_vectors V146 (R286): `CALL Z,0x0150`. -/
theorem test_V146_call_z_0x0150 :
    (after (begin { base with sp := 0xD000, f := 0x00 } clear [(0x0100, 0xCC), (0x0101, 0x50), (0x0102, 0x01)])).map
      (fun t => (t.cpu.pc, t.cycles)) =
      some (0x0103, 12) := by decide

/-- 95_test_vectors V147 (R286): `CALL Z,0x0150`. -/
theorem test_V147_call_z_0x0150 :
    (after (begin { base with sp := 0xD000, f := 0x80 } clear [(0x0100, 0xCC), (0x0101, 0x50), (0x0102, 0x01)])).map
      (fun t => (t.cpu.sp, t.cpu.pc, busRead t 0xCFFF, busRead t 0xCFFE, t.cycles)) =
      some (0xCFFE, 0x0150, 0x01, 0x03, 24) := by decide

/-- 95_test_vectors V148 (R287): `RET`. -/
theorem test_V148_ret :
    (after (begin { base with sp := 0xCFFE, f := 0x00 } clear [(0x0100, 0xC9), (0xCFFE, 0x03), (0xCFFF, 0x01)])).map
      (fun t => (t.cpu.sp, t.cpu.pc, t.cycles)) =
      some (0xD000, 0x0103, 16) := by decide

/-- 95_test_vectors V150 (R288): `RET NC`. -/
theorem test_V150_ret_nc :
    (after (begin { base with sp := 0xCFFE, f := 0x10 } clear [(0x0100, 0xD0), (0xCFFE, 0x03), (0xCFFF, 0x01)])).map
      (fun t => (t.cpu.pc, t.cycles)) =
      some (0x0101, 8) := by decide

/-- 95_test_vectors V152 (R289): `RETI`. -/
theorem test_V152_reti :
    (after (begin { base with pc := 0x0050, sp := 0xCFFE, f := 0x00 } { clear with ime := false }
        [(0x0050, 0xD9), (0xCFFE, 0x19), (0xCFFF, 0x01)])).map
      (fun t => (t.cpu.sp, t.cpu.pc, t.irq.ime, t.cycles)) =
      some (0xD000, 0x0119, true, 16) := by decide

/-- 95_test_vectors V153 (R289): `RETI`. -/
theorem test_V153_reti :
    (after (begin { base with pc := 0x0050, sp := 0xCFFE, f := 0x00 } { clear with ime := false, imePending := true }
        [(0x0050, 0xD9), (0xCFFE, 0x19), (0xCFFF, 0x01)])).map
      (fun t => (t.cpu.sp, t.cpu.pc, t.irq.ime, t.irq.imePending, t.cycles)) =
      some (0xD000, 0x0119, true, false, 16) := by decide

/-- 95_test_vectors V154 (R290): `RST 38h`. -/
theorem test_V154_rst_38h :
    (after (begin { base with sp := 0xD000, f := 0x00 } clear [(0x0100, 0xFF)])).map
      (fun t => (t.cpu.sp, t.cpu.pc, busRead t 0xCFFF, busRead t 0xCFFE, t.cycles)) =
      some (0xCFFE, 0x0038, 0x01, 0x01, 16) := by decide

/-- 95_test_vectors V156 (R300): `NOP`. -/
theorem test_V156_nop :
    (after (begin { base with f := 0xB0 } clear [(0x0100, 0x00)])).map
      (fun t => (t.cpu.pc, t.cycles)) =
      some (0x0101, 4) := by decide

/-- 95_test_vectors V157 (R301): `HALT`. -/
theorem test_V157_halt :
    (after (begin { base with f := 0x00 } { clear with ime := false, ie := 0x00, ifl := 1 } [(0x0100, 0x76)])).map
      (fun t => (t.cpu.pc, t.cpu.halted, t.cycles)) =
      some (0x0101, true, 4) := by decide

/-- 95_test_vectors V160 (R302): `STOP`. -/
theorem test_V160_stop :
    (after (begin { base with f := 0x00 } clear [(0x0100, 0x10), (0x0101, 0x00)])).map
      (fun t => (t.cpu.pc, t.cpu.stopped, t.cycles)) =
      some (0x0102, true, 4) := by decide

/-- 95_test_vectors V163 (R303): `DI`. -/
theorem test_V163_di :
    (after (begin { base with f := 0x00 } { clear with ime := true } [(0x0100, 0xF3)])).map
      (fun t => (t.cpu.pc, t.irq.ime, t.cycles)) =
      some (0x0101, false, 4) := by decide

/-- 95_test_vectors V165 (R304): `EI`. -/
theorem test_V165_ei :
    (after (begin { base with f := 0x00 } { clear with ime := false } [(0x0100, 0xFB)])).map
      (fun t => (t.cpu.pc, t.irq.imePending, t.cycles)) =
      some (0x0101, true, 4) := by decide

/-! Single steps of the whole machine, and single device events, with the results the rules give. -/

/-- The state after one system step. -/
def stepped (s : State) : Option State :=
  match step s with
  | .next t => some t
  | _ => none

/-- 60_exceptions R332: the Timer interrupt, over a lower-priority one, from the halted state. -/
theorem test_dispatch_takes_the_lowest_number :
    (after (begin { base with sp := 0xDFF0, pc := 0x1234, halted := true }
      { ie := 0x1F, ifl := 0b10100, ime := true, imePending := false } [])).map
      (fun t => (t.cpu.pc, t.cpu.sp, busRead t 0xDFEF, busRead t 0xDFEE, t.irq.ifl, t.cycles)) =
      some (0x0050, 0xDFEE, 0x12, 0x34, 0b10000, 20) := by decide

/-- 46_system R304, 60_exceptions R331: the instruction after EI runs before the interrupt, with IME set by then. -/
theorem test_pending_enable_runs_one_instruction :
    (after (begin base { ie := 0x01, ifl := 0b00001, ime := false, imePending := true } [(0x0100, 0x3C)])).map
      (fun t => (t.cpu.pc, t.cpu.a, t.irq.ime, t.irq.imePending)) = some (0x0101, 0x02, true, false) := by decide

/-- 60_exceptions R336: HALT with IME clear ends at a pending interrupt, the next instruction running in the same step. -/
theorem test_halt_without_service :
    (after (begin { base with halted := true } { clear with ie := 0x04, ifl := 0b00100 } [(0x0100, 0x3C)])).map
      (fun t => (t.cpu.pc, t.cpu.a, t.cpu.halted, t.irq.ifl)) = some (0x0101, 0x02, false, 0b00100) := by decide

/-- 61_timer R375, R376: TIMA reads 0 in the four units of the reload window, then TMA with the request. -/
theorem test_timer_reload_window :
    let s : State := { State.reset with
      irq := clear, timer := { sysCounter := 0x000F, tima := 0xFF, tma := 0x23, tac := 0b101, reloadDelay := 0 } }
    ((timerStep 4 s).timer.tima, (timerStep 4 s).irq.ifl, (timerStep 5 s).timer.tima, (timerStep 5 s).irq.ifl) =
      (0x00, 0b00000, 0x23, 0b00100) := by decide

/-- 61_timer R370, R377: a write to DIV while the timer signal is 1 increments TIMA. -/
theorem test_div_write_increments_tima :
    let s : State := { State.reset with
      timer := { sysCounter := 0x0008, tima := 0x41, tma := 0x00, tac := 0b101, reloadDelay := 0 } }
    (busRead (busWrite s 0xFF04 0x99) 0xFF04, busRead (busWrite s 0xFF04 0x99) 0xFF05) = (0x00, 0x42) := by decide

/-- 20_memory R90: the last byte of the page lands in the last byte of OAM, the byte after it nowhere. -/
theorem test_oam_copy :
    let s := begin base clear [(0xC19F, 0x77), (0xC1A0, 0x66)]
    (busRead (busWrite s 0xFF46 0xC1) 0xFE9F, busRead (busWrite s 0xFF46 0xC1) 0xFE00,
      busRead (busWrite s 0xFF46 0xC1) 0xFF46) = (0x77, 0x00, 0xC1) := by decide +kernel

/-- 20_memory R80, R81: Right pressed with the directions selected pulls line 0 low and requests Joypad. -/
theorem test_joypad_press :
    let s := pressButtons 0x01 { State.reset with irq := clear, joypad := { p1Select := 0b10, buttons := 0x00 } }
    (busRead s 0xFF00, s.irq.ifl) = (0xEE, 0b10000) := by decide

/-- 62_ppu R420: a step of NOP takes the PPU four units on, and the timer with it. -/
theorem test_step_advances_devices :
    (stepped State.reset).map (fun t => (t.cpu.pc, t.ppu.dot, t.timer.sysCounter, t.cycles)) =
      some (0x0101, 4, 0xABD0, 4) := by decide

/-- 62_ppu R420, R431, R432: the last unit of line 143 enters v-blank, requests it and hands the frame off. -/
theorem test_vblank_entry :
    let s : State := { State.reset with irq := clear, ppu := { State.reset.ppu with mode := .hBlank, ly := 143, dot := 203 } }
    ((ppuStep 1 s).ppu.mode, (ppuStep 1 s).ppu.ly, (ppuStep 1 s).irq.ifl, (ppuStep 1 s).frame.isSome) =
      (.vBlank, 144, 0b00001, true) := by decide

/-- The instruction of a table word runs as the first after reset (log 8). -/
theorem test_fetch_word_runs_first :
    (stepped (State.reset.withFetchWord 16 0xCB37)).map (fun t => (t.cpu.pc, t.cpu.a, t.cycles)) =
      some (0x0102, 0x10, 8) := by decide +kernel

theorem test_reset_memory_is_canonical : State.reset.mem.wf ∧ State.reset.cart.rom.wf := by decide

/-! For every statement with hypotheses, a state and operands that meet all of them; for a statement of several clauses, each
clause at the ends of its range. -/

/-- A state in which `INC A` stands at PC. -/
def witnessState : State := begin base clear [(0x0100, 0x3C), (0xC000, 0x05)]

theorem witness_DecodeOfEncodeIsTheInstruction :
    (Instr.ldhAIndA8 0xFF).wellFormed = true ∧ Instr.set7A.wellFormed = true := by decide

theorem witness_StepRunsTheDecodedInstruction :
    let u := takeInput witnessState
    u.cpu.stopped = false ∧ (u.pending = none → u.cpu.halted = false) ∧ (u.pending = none ∨ u.irq.ime = false) ∧
      decode [busRead u u.cpu.pc, busRead u (u.cpu.pc + 1), busRead u (u.cpu.pc + 2)] = .ok (.incA, [0x00, 0x00]) := by
  decide

theorem witness_IdleStepsPassFourCycles_stopped :
    (takeInput { witnessState with cpu := { base with stopped := true } }).cpu.stopped = true := by decide

theorem witness_IdleStepsPassFourCycles_halted :
    let u := takeInput { witnessState with cpu := { base with halted := true } }
    u.cpu.halted = true ∧ u.pending = none := by decide

/-- IE's bits 7:5 alone make nothing pending; the lowest and the highest kind. -/
theorem witness_PendingIsTheFirstEnabledRequest :
    State.pending { witnessState with irq := { clear with ie := 0xE0, ifl := 0b11111 } } = none ∧
    State.pending { witnessState with irq := { clear with ie := 0x11, ifl := 0b10001 } } = some .vBlank ∧
    State.pending { witnessState with irq := { clear with ie := 0x10, ifl := 0b11111 } } = some .joypad := by decide

theorem witness_DispatchEntersTheVector :
    let u := takeInput { witnessState with irq := { ie := 0x14, ifl := 0b10100, ime := true, imePending := false } }
    u.cpu.stopped = false ∧ u.pending = some .timer ∧ u.irq.ime = true := by decide

theorem witness_EnableTakesEffectAfterOneInstruction :
    let u := takeInput { witnessState with irq := { ie := 0x14, ifl := 0b10100, ime := false, imePending := true } }
    u.cpu.stopped = false ∧ u.cpu.halted = false ∧ u.irq.ime = false ∧ u.irq.imePending = true ∧
      decode [busRead u u.cpu.pc, busRead u (u.cpu.pc + 1), busRead u (u.cpu.pc + 2)] = .ok (.incA, [0x00, 0x00]) := by
  decide

/-- A request enabled, and one that is not. -/
theorem witness_HaltEndsWithoutService :
    let h : State := { witnessState with cpu := { base with halted := true } }
    let u := takeInput { h with irq := { clear with ie := 0x04, ifl := 0b00100 } }
    let v := takeInput { h with irq := { clear with ie := 0xFB, ifl := 0b00100 } }
    (u.cpu.stopped = false ∧ u.cpu.halted = true ∧ u.irq.ie &&& u.irq.ifl.setWidth 8 &&& 0x1F ≠ 0 ∧ u.irq.ime = false ∧
      u.irq.imePending = false ∧
      decode [busRead u u.cpu.pc, busRead u (u.cpu.pc + 1), busRead u (u.cpu.pc + 2)] = .ok (.incA, [0x00, 0x00])) ∧
    v.cpu.stopped = false ∧ v.cpu.halted = true ∧ v.irq.ie &&& v.irq.ifl.setWidth 8 &&& 0x1F = 0 := by decide

theorem witness_StepTakesOneInputAndKeepsTheCartridge :
    ∃ t, step { witnessState with inputs := [0x01, 0x00] } = .next t := ⟨_, rfl⟩

/-- The one pair of operands that the second clause leaves out is the place of HALT. -/
theorem witness_ByteLoadsCopyTheSource : (R8.indHl ≠ .indHl ∨ R8.a ≠ .indHl) ∧ (R8.b ≠ .indHl ∨ R8.indHl ≠ .indHl) ∧
    loadOf .indHl .indHl = .halt := by decide

theorem witness_OperandsAreTheirRegisters : R8.b ≠ .indHl ∧ R8.a ≠ .indHl := by decide

theorem witness_SubSbcAndCpResults : ∀ op ∈ [AluOp.sub, .sbc, .cp], op = .sub ∨ op = .sbc ∨ op = .cp := by decide

theorem witness_LogicResults : ∀ op ∈ [AluOp.and, .xor, .or], op = .and ∨ op = .xor ∨ op = .or := by decide

theorem witness_DecimalAdjustGivesDecimalArithmetic :
    99 < 100 ∧ 0 < 100 ∧ (State.cpu { witnessState with cpu := { base with a := 0x99 } }).a = packed 99 := by decide

theorem witness_BitInstructionResults : 0 < 8 ∧ 7 < 8 ∧ (bitRow .indHl)[7]? = some .bit7IndHl ∧ (setRow .a)[0]? = some .set0A := by
  decide

/-- The first and the last stack address that is storage below the top of high RAM, and the mirror. -/
theorem witness_ReturnUndoesCall :
    witnessState.mem.wf ∧ owner (0xFFFF - 1) = .store 0xFFFE ∧ owner (0xFFFF - 2) = .store 0xFFFD ∧
      owner (0x8002 - 1) = .store 0x8001 ∧ owner (0x8002 - 2) = .store 0x8000 ∧ owner (0xE001 - 1) = .store 0xC000 := by decide

/-- Every instruction answers a next state, so the frames' hypothesis is met by each; here one that stores. -/
theorem witness_frames : ∃ t, exec .incIndHl { witnessState with cpu := { base with h := 0xC0, l := 0x00 } } = .next t := ⟨_, rfl⟩

theorem witness_OtherRegistersAreKept : R8.b ≠ .indHl ∧ R8.b ∉ destinations .popHl witnessState ∧
    R8.l ∈ destinations .popHl witnessState := by decide

theorem witness_FlagsFollowTheirColumn :
    flagsOf .incB witnessState = (.computed, .clear, .computed, .keep) ∧ witnessState.cpu.f &&& 0x0F = 0 := by decide

theorem witness_SpAndPcAreKept : writesSp .incIndHl = false ∧ writesPc .incIndHl = false ∧ writesSp .popBc = true ∧
    writesPc (.jrE8 0x00) = true := by decide

theorem witness_ControlBitsChangeByTheirInstructions :
    (∃ t, exec .reti witnessState = .next t) ∧ ∃ t, exec (.stop 0x00) witnessState = .next t := ⟨⟨_, rfl⟩, ⟨_, rfl⟩⟩

/-- A store at 0xDDFF leaves its neighbours and shows at 0xFDFF, the last byte of the mirror. -/
theorem witness_OtherBytesAreKept :
    witnessState.mem.wf ∧ storeTargets (.ldIndA16A 0xDDFF) witnessState = [0xDDFF] ∧ touched 0xDDFF 0xDDFE = false ∧
      touched 0xDDFF 0xDE00 = false ∧ touched 0xDDFF 0xFDFF = true ∧ storeTargets .incB witnessState = [] := by decide

/-- A store next to a device's addresses. -/
theorem witness_OtherDevicesAreKept :
    (∀ a : Word, storeTargets (.ldIndA16A a) witnessState = [a]) ∧
    ([(0xFF03 : Word), 0xFF08].all fun w => decide (w ∉ [(0xFF04 : Word), 0xFF05, 0xFF06, 0xFF07])) ∧
    ([(0xFF3F : Word), 0xFF46, 0xFF4C].all fun w => decide (w.toNat < 0xFF40 ∨ 0xFF4B < w.toNat ∨ w = 0xFF46)) ∧
    ([(0xFF45 : Word), 0xFF47].all fun w => decide (w ≠ 0xFF46)) ∧ ([(0xFEFF : Word), 0xFF01].all fun w => decide (w ≠ 0xFF00)) ∧
    ([(0xFF0E : Word), 0xFF10].all fun w => decide (w ≠ 0xFF0F)) ∧ [(0xFFFE : Word), 0x0000].all fun w => decide (w ≠ 0xFFFF) :=
  ⟨fun _ => rfl, by decide, by decide, by decide, by decide, by decide, by decide⟩

/-- The byte read at an address after 0xA5 is written there. -/
def readBack (a : Word) : Byte := busRead (busWrite witnessState a 0xA5) a

/-- Each clause at the ends of its ranges, 0xFF46 among them by `witness_ReadAfterWriteGivesTheRegister_dma`. -/
theorem witness_ReadAfterWriteGivesTheRegister :
    witnessState.mem.wf ∧
    [(0x8000 : Word), 0x9FFF, 0xC000, 0xDDFF, 0xDFFF, 0xE000, 0xFDFF, 0xFE00, 0xFE9F, 0xFF01, 0xFF03, 0xFF05, 0xFF06, 0xFF08,
      0xFF0E, 0xFF10, 0xFF40, 0xFF42, 0xFF43, 0xFF45, 0xFF47, 0xFF4B, 0xFF4C, 0xFF7F, 0xFF80, 0xFFFE, 0xFFFF].all
        (fun a => readBack a = 0xA5) ∧
    [(0x0000 : Word), 0x0100, 0x7FFF].all (fun a => readBack a = busRead witnessState a) ∧
    [(0xA000 : Word), 0xBFFF, 0xFEA0, 0xFEFF].all (fun a => readBack a = 0xFF) ∧
    [(0xFF00 : Word), 0xFF04, 0xFF07, 0xFF0F, 0xFF41, 0xFF44].map readBack = [0xEF, 0x00, 0xFD, 0xE5, 0xA6, 0x00] := by decide

theorem witness_ReadAfterWriteGivesTheRegister_dma : readBack 0xFF46 = 0xA5 := by decide +kernel

theorem witness_WritesTouchOnlyTheirAddresses : witnessState.mem.wf ∧ touched 0xFF41 0xFF41 = true ∧
    touched 0xFF04 0xFF06 = false ∧ touched 0xFF46 0xFDFF = false ∧ touched 0xFF46 0xFEA0 = false ∧
    touched 0xFF44 0xFF45 = false ∧ touched 0xFF0F 0xFF0E = false := by decide

theorem witness_RegionsAnswerAsMapped :
    [(0x0000 : Word), 0x7FFF].all (fun a => a.toNat < 0x8000) ∧
    [(0xA000 : Word), 0xBFFF, 0xFEA0, 0xFEFF].all
      (fun a => 0xA000 ≤ a.toNat ∧ a.toNat < 0xC000 ∨ 0xFEA0 ≤ a.toNat ∧ a.toNat < 0xFF00) ∧
    [(0xE000 : Word), 0xFDFF].all (fun a => 0xE000 ≤ a.toNat ∧ a.toNat < 0xFE00) ∧
    busRead witnessState 0xE000 = 0x05 ∧ busRead (busWrite witnessState 0xFDFF 0x66) 0xDDFF = 0x66 := by decide

theorem witness_OamCopyIsThePage : witnessState.mem.wf ∧ 159 < 160 ∧ (0xFDFF : Word) < 0xFE00 ∧ (0xFEA0 : Word) ≤ 0xFEA0 := by
  decide

/-- TAC = 101: 16 units at most to the next increment, TIMA reaching 0xFF; and the timer disabled. -/
theorem witness_TimerCountsAtItsRate :
    let s : State := { witnessState with timer := { sysCounter := 0xFFFF, tima := 0xFE, tma := 0, tac := 0b101, reloadDelay := 0 } }
    (s.timer.reloadDelay = 0 ∧ s.timer.tac.getLsbD 2 = true ∧
      s.timer.tima.toNat + ((0xFFFF + 16) / timerPeriod s.timer - 0xFFFF / timerPeriod s.timer) = 255 ∧
      (timerStep 16 s).timer.tima = 0xFF ∧ (timerStep 16 s).timer.sysCounter = 15) ∧
    (State.reset.timer.reloadDelay = 0 ∧ State.reset.timer.tac.getLsbD 2 = false) := by decide

theorem witness_TimerReloadsFourUnitsAfterOverflow :
    let t : Timer := { sysCounter := 0x03FF, tima := 0xFF, tma := 0x80, tac := 0b100, reloadDelay := 0 }
    t.tac.getLsbD 2 = true ∧ t.reloadDelay = 0 ∧ t.tima = 0xFF ∧ t.sysCounter.getLsbD (timerBit t.tac) = true ∧
      (t.sysCounter + 1).getLsbD (timerBit t.tac) = false := by decide

/-- The PPU at a mode, line and unit. -/
def ppuAt (m : PpuMode) (ly : Byte) (dot : Nat) : Ppu := { State.reset.ppu with mode := m, ly := ly, dot := dot }

/-- The ends of the frame and of its stretches. -/
theorem witness_OneFramePerFullRefresh :
    bit State.reset.ppu.lcdc 7 = true ∧
    (InFrame (ppuAt .oamSearch 0 0) ∧ framePosition (ppuAt .oamSearch 0 0) = 0) ∧
    (InFrame (ppuAt .hBlank 143 203) ∧ framePosition (ppuAt .hBlank 143 203) = 65663) ∧
    (InFrame (ppuAt .vBlank 144 0) ∧ framePosition (ppuAt .vBlank 144 0) = 65664) ∧
    (InFrame (ppuAt .vBlank 153 455) ∧ framePosition (ppuAt .vBlank 153 455) = 70223) := by
  simp [InFrame, framePosition, ppuAt, bit, State.reset]

theorem witness_PpuRequestsInterruptsOnTheirEvents :
    InFrame (ppuAt .hBlank 143 203) ∧ framePosition (ppuAt .hBlank 143 203) + 1 = 65664 ∧ InFrame (ppuAt .pixelTransfer 143 171) := by
  simp [InFrame, framePosition, ppuAt, State.reset]

theorem witness_RowIsCompositedAtTheEndOfPixelTransfer :
    159 < 160 ∧ 143 < 144 ∧ (ppuAt .pixelTransfer 143 171).mode = .pixelTransfer ∧ (ppuAt .pixelTransfer 143 171).dot + 1 = 172 ∧
      (ppuAt .pixelTransfer 143 171).ly.toNat = 143 := by decide

/-- In the window at its first column and row, and just outside it. -/
theorem witness_BackgroundPixelReadsItsTile :
    let p : Ppu := { State.reset.ppu with lcdc := 0xB1, wx := 166, wy := 143 }
    159 < 160 ∧ 143 < 144 ∧ (p.lcdc.getLsbD 5 = true ∧ p.wy.toNat ≤ 143 ∧ p.wx.toNat ≤ 159 + 7) ∧ ¬p.wx.toNat ≤ 158 + 7 := by
  decide

/-- A sprite at the top left corner, on its first and last row and column. -/
theorem witness_SpritesAreSelectedInOamOrder :
    let e : Sprite := { y := 16, x := 8, tile := 0, attr := 0 }
    (∀ y ∈ [0, 7], e.y.toNat ≤ y + 16 ∧ y + 16 < e.y.toNat + 8) ∧ (∀ y ∈ [0, 15], e.y.toNat ≤ y + 16 ∧ y + 16 < e.y.toNat + 16) ∧
    (∀ x ∈ [0, 7], e.x.toNat ≤ x + 8 ∧ x < e.x.toNat) ∧ ¬8 < e.x.toNat := by decide

/-- The last entry of OAM ends at its last byte, and the ends of VRAM and OAM. -/
theorem witness_SpritesAreSelectedInOamOrder_memory :
    0xFE00 + 4 * 39 + 3 = 0xFE9F ∧
    [(0x8000 : Word), 0x9FFF, 0xFE00, 0xFE9F].all
      (fun a => 0x8000 ≤ a.toNat ∧ a.toNat < 0xA000 ∨ 0xFE00 ≤ a.toNat ∧ a.toNat < 0xFEA0) := by decide

/-- Two sprites with equal X, the first of which wins. -/
theorem witness_SpritesAreSelectedInOamOrder_first (e f : Sprite) (h : e.x = f.x) :
    let l : List (Sprite × Colour) := [(e, 1), (f, 2)]
    l[0]? = some (e, 1) ∧ ∀ j v, l[j]? = some v → e.x.toNat < v.1.x.toNat ∨ (e.x = v.1.x ∧ 0 ≤ j) := by
  refine ⟨rfl, fun j v hv => ?_⟩
  match j with
  | 0 => cases hv; exact .inr ⟨rfl, le_refl 0⟩
  | 1 => cases hv; exact .inr ⟨h, Nat.zero_le 1⟩
  | j + 2 => cases hv

theorem witness_LcdSwitchesOffAndOn :
    State.reset.ppu.lcdc.getLsbD 7 = true ∧ (0x11 : Byte).getLsbD 7 = false ∧
      (State.reset.ppu.writeLcdc 0x11).lcdc.getLsbD 7 = false := by decide

theorem witness_ResetValuesAreTheTable :
    (∀ n ∈ [0x8000, 0x9FFF, 0xC000, 0xFE9F, 0xFF80, 0xFFFF],
      n < 0x10000 ∧ (0x8000 ≤ n ∧ n < 0xA000 ∨ 0xC000 ≤ n ∧ n < 0xFEA0 ∨ 0xFF80 ≤ n)) ∧
    ∀ n ∈ [0x01, 0x0E, 0x10, 0x3F, 0x4C, 0x7F], n < 0x80 ∧ n ∉ ioDevices := by decide

/-- A legal state with a byte of ROM and a byte of RAM, and its step. -/
theorem witness_EveryStepKeepsTheStateLegal : Safety.Legal witnessState ∧ ∃ t, step witnessState = .next t :=
  ⟨{ flagsLow := by decide, memCanonical := by decide, romCanonical := by decide, memBacked := by decide
     romBacked := by decide, ppuInBudget := ⟨by decide, (by decide : 0 < 80 ∧ 0 < 144)⟩, ppuOff := by unfold Safety.PpuOffAtRest; decide
     reloadWindow := by decide }, _, rfl⟩

end Sys2Proof.Tests
end

section
/-! SUPPORT. The OAM copy byte by byte, and the cartridge's ranges, the unused range and the mirror (20_memory R64, R67, R90). -/

namespace Sys2Proof.Machine

/-- A store to the memory changes a read only at the owner of its key. -/
theorem busRead_mem_write_of_ne {s : State} (hm : s.mem.wf) {a : Word} {k : Nat} (h : owner a ≠ .store k) (v : Byte) :
    busRead { s with mem := s.mem.write k v } a = busRead s a := by
  unfold busRead
  split
  case h_3 k' hk' =>
    have hne : k' ≠ k := fun hk => h (hk ▸ hk')
    exact (Memory.read_write _ hm k k' v).trans (if_neg hne)
  all_goals rfl

/-- A byte of a page is stored in OAM only if it is the byte of OAM with the same offset: the mirror folds onto work RAM. -/
theorem offset_eq_of_owner_page {page : Byte} {i j : Nat} (hi : i < 160) (hj : j < 160)
    (h : owner (BitVec.ofNat 16 (page.toNat * 256 + i)) = .store (0xFE00 + j)) : i = j := by
  have hp := page.isLt
  have ha : (BitVec.ofNat 16 (page.toNat * 256 + i)).toNat = page.toNat * 256 + i := by
    rw [BitVec.toNat_ofNat, Nat.mod_eq_of_lt (by omega)]
  have hk := owner_store_key h
  rw [ha] at hk
  omega

/-- The last `n` bytes of the OAM copy are the source's as it was before them. -/
theorem oamCopyLast_read_oam (page : Byte) (n : Nat) (hn : n ≤ 160) (s : State) (hm : s.mem.wf) (i : Nat) (hi : i < 160)
    (hni : 160 - n ≤ i) :
    (oamCopyLast page n s).mem.read (0xFE00 + i) = busRead s (BitVec.ofNat 16 (page.toNat * 256 + i)) := by
  induction n generalizing s with
  | zero => omega
  | succ n ih =>
    have hwf := fun v => Memory.write_wf _ hm (0xFE00 + (160 - (n + 1))) v
    simp only [oamCopyLast]
    by_cases hfirst : i = 160 - (n + 1)
    · rw [oamCopyLast_read page n (by omega) _ (hwf _) _ (by omega), Memory.read_write _ hm, if_pos (by omega), hfirst]
    · rw [ih (by omega) _ (hwf _) (by omega)]
      exact busRead_mem_write_of_ne hm (fun h => hfirst (offset_eq_of_owner_page hi (by omega) h)) _

/-- The DMA trigger copies the page, as the bus reads it with DMA written, into OAM. -/
theorem oamDma_read_oam (s : State) (v : Byte) (hm : s.mem.wf) (i : Nat) (hi : i < 160) :
    (oamDma s v).mem.read (0xFE00 + i) = busRead { s with dma := v } (BitVec.ofNat 16 (v.toNat * 256 + i)) :=
  oamCopyLast_read_oam v 160 (Nat.le_refl _) { s with dma := v } hm i hi (by omega)

/-- A write to the DMA trigger is the OAM copy. -/
theorem busWrite_dma (s : State) (v : Byte) : busWrite s 0xFF46 v = oamDma s v := by
  have h : owner 0xFF46 = .dma := by decide
  unfold busWrite
  rw [h]

/-- An address of the mirror and the one 0x2000 below have the same owner. -/
theorem owner_mirror_eq {a : Word} (h1 : 0xE000 ≤ a.toNat) (h2 : a.toNat < 0xFE00) : owner (a - 0x2000) = owner a := by
  have hk := owner_of_key (owner_mirror h1 h2)
  have ha : BitVec.ofNat 16 (a.toNat - 0x2000) = a - 0x2000 := by bv_omega
  rw [owner_mirror h1 h2, ← hk.1, ha]

end Sys2Proof.Machine

namespace Sys2Proof.Laws

open Sys2Proof.Machine

/-- Settles O47, by induction on the bytes the copy has left: the bytes already copied stand in OAM, and the source's byte at an
offset is one of them only if it has their offset. -/
theorem oamCopyIsThePage : Obligations.OamCopyIsThePage := by
  intro s v hm
  rw [busWrite_dma]
  refine ⟨oamDma_mem s v, fun i hi => ?_, fun a ha => oamDma_read s v hm a ha⟩
  rw [busRead_store (owner_oam hi)]
  exact oamDma_read_oam s v hm i hi

/-- Settles O46, by the owners of the four ranges. -/
theorem regionsAnswerAsMapped : Obligations.RegionsAnswerAsMapped := by
  intro s a v
  obtain ⟨hrom, hram, hunused⟩ := owner_range a
  refine ⟨fun h => ?_, fun h => ?_, fun h => ?_, fun ⟨h1, h2⟩ => ?_⟩
  · simp only [busRead, hrom.mpr h]
  · rcases h with h | h
    · simp only [busRead, hram.mpr h, Config.absentRamRead]
    · simp only [busRead, hunused.mpr h, Config.unusableRead]
  · rcases h with h | h | h
    · simp only [busWrite, hrom.mpr h]
    · simp only [busWrite, hram.mpr h]
    · simp only [busWrite, hunused.mpr h]
  · have hlow := owner_mirror_eq h1 h2
    have hmirror := owner_mirror h1 h2
    rw [hmirror] at hlow
    exact ⟨by rw [busRead_store hmirror, busRead_store hlow], by rw [busWrite_store hmirror, busWrite_store hlow]⟩

end Sys2Proof.Laws
end

section
/-! SUPPORT. The joypad's lines as a byte, and the events of a new button value (20_memory R80, R81). -/

namespace Sys2Proof.Machine

/-- A complemented nibble as a byte. -/
theorem setWidth_not_nibble (x : BitVec 4) : (~~~x).setWidth 8 = (0x0F : Byte) &&& ~~~x.setWidth 8 := by revert x; decide

/-- The low nibble of a byte, as a byte. -/
theorem setWidth_lowNibble (b : Byte) : (b.extractLsb' 0 4).setWidth 8 = b &&& 0x0F := by revert b; decide

/-- The high nibble of a byte, as a byte. -/
theorem setWidth_highNibble (b : Byte) : (b.extractLsb' 4 4).setWidth 8 = b >>> 4 := by revert b; decide

/-- Whether a bit of one nibble is clear in another does not depend on the width they are compared in. -/
theorem setWidth_and_not_eq_zero_iff (x y : BitVec 4) : x.setWidth 8 &&& ~~~(y.setWidth 8 : Byte) = 0 ↔ x &&& ~~~y = 0 := by
  revert x y; decide

/-- The lines as the low nibble of a byte, from the nibbles of the buttons. -/
theorem Joypad.setWidth_lines (j : Joypad) :
    j.lines.setWidth 8 = (0x0F : Byte) &&& ~~~((if j.p1Select.getLsbD 0 then (0 : Byte) else j.buttons &&& 0x0F) |||
      (if j.p1Select.getLsbD 1 then (0 : Byte) else j.buttons >>> 4)) := by
  simp only [Joypad.lines, setWidth_not_nibble, BitVec.setWidth_or, apply_ite (BitVec.setWidth 8), setWidth_lowNibble,
    setWidth_highNibble, BitVec.setWidth_zero, BitVec.ofNat_eq_ofNat]

/-- A conditional request sets at most its own bit of IF. -/
theorem State.requestIf_eq (s : State) (b : Bool) (k : IrqKind) :
    s.requestIf b k = { s with irq := { s.irq with ifl := s.irq.ifl ||| if b then (1 : BitVec 5) <<< k.number else 0 } } := by
  cases b
  · simp
  · rfl

/-- What a new button value changes: the buttons, the Joypad request if a line falls, the stopped state if a button goes down. -/
theorem pressButtons_eq (now : Byte) (s : State) :
    pressButtons now s =
      { s with
        joypad := { s.joypad with buttons := now }
        irq := { s.irq with
          ifl := s.irq.ifl ||| (if s.joypad.lines &&& ~~~({ s.joypad with buttons := now } : Joypad).lines = 0 then 0 else 0b10000) }
        cpu := { s.cpu with stopped := s.cpu.stopped && decide (now &&& ~~~s.joypad.buttons = 0) } } := by
  rw [pressButtons, State.requestIf_eq]
  simp only [ne_eq, decide_not, Bool.not_not, Bool.not_eq_true', decide_eq_false_iff_not, ite_not]
  rfl

end Sys2Proof.Machine

namespace Sys2Proof.Laws

open Sys2Proof.Machine

/-- Settles O57: the lines, the selection and the events, with the nibbles of the statement read as the model's lines. -/
theorem joypadLinesAndEvents : Obligations.JoypadLinesAndEvents := by
  intro s now
  simp only [← Joypad.setWidth_lines s.joypad, ← Joypad.setWidth_lines { s.joypad with buttons := now },
    setWidth_and_not_eq_zero_iff]
  exact ⟨rfl, rfl, pressButtons_eq now s⟩

end Sys2Proof.Laws
end

section
/-! SUPPORT. What the bus reads right after reset (70_reset_and_hazards R461, 20_memory R85). -/

namespace Sys2Proof.Machine

/-- VRAM, work RAM, its mirror, OAM and high RAM are plain storage outside the I/O block; the last address is IE's. -/
theorem owner_ram {a : Word} (h : 0x8000 ≤ a.toNat ∧ a.toNat < 0xA000 ∨ 0xC000 ≤ a.toNat ∧ a.toNat < 0xFEA0 ∨ 0xFF80 ≤ a.toNat) :
    (∃ k, owner a = .store k ∧ (k < 0xFF00 ∨ 0xFF80 ≤ k)) ∨ owner a = .ie := by
  have := a.isLt
  by_cases hie : a.toNat = 0xFFFF
  · have ha : a = 0xFFFF := BitVec.eq_of_toNat_eq hie
    exact .inr (by rw [ha]; decide)
  · by_cases hmirror : 0xE000 ≤ a.toNat ∧ a.toNat < 0xFE00
    · exact .inl ⟨_, owner_mirror hmirror.1 hmirror.2, by omega⟩
    · refine .inl ⟨a.toNat, ?_, by omega⟩
      simp only [owner]
      rcases h with h | h | h
      · rw [if_neg (by omega), if_pos (by omega)]
      · by_cases hwork : a.toNat < 0xE000
        · rw [if_neg (by omega), if_neg (by omega), if_neg (by omega), if_pos hwork]
        · rw [if_neg (by omega), if_neg (by omega), if_neg (by omega), if_neg hwork, if_neg (by omega), if_pos (by omega)]
      · rw [if_neg (by omega), if_neg (by omega), if_neg (by omega), if_neg (by omega), if_neg (by omega), if_neg (by omega),
          if_neg (by omega), if_neg (by omega), if_pos (by omega)]

/-- Every RAM, and IE, reads 0x00 right after reset. -/
theorem busRead_reset_ram {a : Word}
    (h : 0x8000 ≤ a.toNat ∧ a.toNat < 0xA000 ∨ 0xC000 ≤ a.toNat ∧ a.toNat < 0xFEA0 ∨ 0xFF80 ≤ a.toNat) :
    busRead State.reset a = 0x00 := by
  rcases owner_ram h with ⟨k, hk, hout⟩ | hie
  · rw [busRead_store hk]
    exact if_neg (by omega)
  · simp only [busRead, hie]
    rfl

/-- The plain I/O bytes read as their table right after reset. -/
theorem busRead_reset_io :
    ∀ n < 0x80, n ∉ Claims.ioDevices → busRead State.reset (BitVec.ofNat 16 (0xFF00 + n)) = (Claims.ioTable.lookup n).getD 0xFF := by
  decide

end Sys2Proof.Machine

namespace Sys2Proof.Laws

open Sys2Proof.Machine

/-- Settles O58: the register values are the table's rows, and memory reads as nothing had been written to it. -/
theorem resetValuesAreTheTable : Obligations.ResetValuesAreTheTable := by
  refine ⟨fun u => ⟨rfl, rfl, rfl, rfl, rfl, rfl, rfl, rfl⟩, rfl, rfl, rfl,
    ⟨rfl, rfl, rfl, rfl, rfl, rfl, rfl, rfl, rfl, rfl, rfl, rfl, rfl, rfl, rfl⟩, rfl, rfl, fun n hn h => ?_, busRead_reset_io⟩
  have ha : (BitVec.ofNat 16 n).toNat = n := by rw [BitVec.toNat_ofNat, Nat.mod_eq_of_lt hn]
  exact busRead_reset_ram (by rwa [ha])

end Sys2Proof.Laws
end

section
/-! SUPPORT. The 8-bit loads by their operands: their bytes, their shapes, and the state each shape answers (40_load8 R150 to
R168). -/

namespace Sys2Proof.Laws

open Sys2Proof.Machine Sys2Proof.Claims

variable {i : Instr}

/-- The bytes of `LD dst,d8`: the opcode with the index of `dst` in its bits 5:3, and the immediate. -/
theorem encode_loadImmOf (dst : R8) (v : Byte) : encode (loadImmOf dst v) = [(0x06 : Byte) ||| code dst <<< 3, v] := by
  cases dst <;> rfl

/-- The byte of `LD dst,src`, and of the HALT in the place of `(HL),(HL)`. -/
theorem encode_loadOf (dst src : R8) : encode (loadOf dst src) = [(0x40 : Byte) ||| code dst <<< 3 ||| code src] := by
  cases dst <;> cases src <;> rfl

theorem shapeOf_loadImmOf (dst : R8) (v : Byte) :
    shapeOf (loadImmOf dst v) = .loadR8Imm dst v (if dst = .indHl then 12 else 8) := by
  cases dst <;> rfl

/-- Every `LD dst,src` is the one load, but for the HALT in the place of `(HL),(HL)`. -/
theorem shapeOf_loadOf (dst src : R8) :
    shapeOf (loadOf dst src) =
      if dst = .indHl ∧ src = .indHl then .enterHalt
      else .loadR8 dst src (if dst = .indHl ∨ src = .indHl then 8 else 4) := by
  cases dst <;> cases src <;> rfl

/-- What a load of A through an address answers. -/
theorem exec_of_shapeOf_loadA {addr : State → Word} {n : Nat} (h : shapeOf i = .loadA addr n) (s : State) :
    exec i s = .next { s with cpu := { s.cpu with a := busRead s (addr s) }, cycles := n } := by
  rw [exec_shape, h]
  rfl

/-- What a store of A to an address answers. -/
theorem exec_of_shapeOf_storeA {addr : State → Word} {n : Nat} (h : shapeOf i = .storeA addr n) (s : State) :
    exec i s = .next { busWrite s (addr s) s.cpu.a with cycles := n } := by
  rw [exec_shape, h]
  rfl

/-- What a load of A through HL answers that then steps HL. -/
theorem exec_of_shapeOf_loadAThenHl {k : Word} (h : shapeOf i = .loadAThenHl k) (s : State) :
    exec i s = .next
      { s with cpu := { s.cpu with a := busRead s s.hl, h := hiByte (s.hl + k), l := loByte (s.hl + k) }, cycles := 8 } := by
  rw [exec_shape, h]
  rfl

/-- What a store of A to HL answers that then steps HL: the registers are those of before the write. -/
theorem exec_of_shapeOf_storeAThenHl {k : Word} (h : shapeOf i = .storeAThenHl k) (s : State) :
    exec i s = .next
      { busWrite s s.hl s.cpu.a with cpu := { s.cpu with h := hiByte (s.hl + k), l := loByte (s.hl + k) }, cycles := 8 } := by
  rw [exec_shape, h, Shape.run, storeAThenHl, State.withHl, busWrite_cpu]
  rfl

/-- The step of HL down by 1 as the sum the model writes. -/
theorem sub_one_eq_add_max (w : Word) : w - 1 = w + 0xFFFF := by bv_omega

/-- Settles O12, by the shapes of the loads; a load that is not `(HL),(HL)` is not in HALT's place. -/
theorem byteLoadsCopyTheSource : Obligations.ByteLoadsCopyTheSource := by
  intro dst src v s
  refine ⟨⟨encode_loadImmOf dst v, ?_⟩, fun hne => ⟨encode_loadOf dst src, ?_⟩⟩
  · rw [exec_shape, shapeOf_loadImmOf]
    rfl
  · have hload : ¬(dst = .indHl ∧ src = .indHl) := not_and_or.mpr hne
    rw [exec_shape, shapeOf_loadOf, if_neg hload]
    rfl

/-- Settles O14: each instruction's shape names its address, that of the LDH forms being a sum. -/
theorem loadsOfAReadTheAddress : Obligations.LoadsOfAReadTheAddress := by
  intro s w n
  simp only [List.forall_mem_cons, ← highPage_eq, sub_one_eq_add_max]
  refine ⟨⟨⟨rfl, ?_⟩, ⟨rfl, ?_⟩, ⟨rfl, ?_⟩, ⟨rfl, ?_⟩, ⟨rfl, ?_⟩, List.forall_mem_nil _⟩,
    ⟨rfl, ?_⟩, ⟨rfl, ?_⟩, List.forall_mem_nil _⟩
  iterate 5
    apply exec_of_shapeOf_loadA
    rfl
  iterate 2
    apply exec_of_shapeOf_loadAThenHl
    rfl

/-- Settles O15: each instruction's shape names its address, that of the LDH forms being a sum. -/
theorem storesOfAWriteTheAddress : Obligations.StoresOfAWriteTheAddress := by
  intro s w n
  simp only [List.forall_mem_cons, ← highPage_eq, sub_one_eq_add_max]
  refine ⟨⟨⟨rfl, ?_⟩, ⟨rfl, ?_⟩, ⟨rfl, ?_⟩, ⟨rfl, ?_⟩, ⟨rfl, ?_⟩, List.forall_mem_nil _⟩,
    ⟨rfl, ?_⟩, ⟨rfl, ?_⟩, List.forall_mem_nil _⟩
  iterate 5
    apply exec_of_shapeOf_storeA
    rfl
  iterate 2
    apply exec_of_shapeOf_storeAThenHl
    rfl

end Sys2Proof.Laws
end

section
/-! SUPPORT. The 16-bit loads and the stack by their operands: their bytes, their shapes, the flags of SP plus an offset, and the
stack's two words as the model's push and pop (41_load16_stack R180 to R186, 43_alu16 R243). -/

namespace Sys2Proof.Machine

/-- The sum of a word and a signed offset, by the offset's signed value. -/
theorem addSext_eq (w : Word) (n : Byte) : addSext w n = BitVec.ofInt 16 ((w.toNat : Int) + n.toInt) := by
  rw [addSext, sext8_eq]

@[simp] theorem hiByte_topWord (s : State) : hiByte (topWord s) = busRead s (s.cpu.sp + 1) := hiByte_joinBytes _ _

@[simp] theorem loByte_topWord (s : State) : loByte (topWord s) = busRead s s.cpu.sp := loByte_joinBytes _ _

end Sys2Proof.Machine

namespace Sys2Proof.Laws

open Sys2Proof.Machine Sys2Proof.Claims

/-- The bytes of `LD rr,d16`: the opcode with the index of `rr` in its bits 5:4, and the immediate, low byte first. -/
theorem encode_loadPairOf (r : R16) (w : Word) :
    encode (loadPairOf r w) = [(0x01 : Byte) ||| pairCode r <<< 4, loByte w, hiByte w] := by
  cases r <;> rfl

/-- The byte of `PUSH rr`: the opcode with the index of `rr` in its bits 5:4. -/
theorem encode_pushOf (r : R16Stk) : encode (pushOf r) = [(0xC5 : Byte) ||| stkCode r <<< 4] := by
  cases r <;> rfl

/-- The byte of `POP rr`: the opcode with the index of `rr` in its bits 5:4. -/
theorem encode_popOf (r : R16Stk) : encode (popOf r) = [(0xC1 : Byte) ||| stkCode r <<< 4] := by
  cases r <;> rfl

theorem shapeOf_loadPairOf (r : R16) (w : Word) : shapeOf (loadPairOf r w) = .loadR16 r w := by
  cases r <;> rfl

theorem shapeOf_pushOf (r : R16Stk) : shapeOf (pushOf r) = .pushStk r := by
  cases r <;> rfl

theorem shapeOf_popOf (r : R16Stk) : shapeOf (popOf r) = .popStk r := by
  cases r <;> rfl

/-- Flags packed into F are the flags F holds. -/
theorem flagsAre_of_pack {t : State} {x : FlagBits} {z n h c : Prop} (hf : t.cpu.f = x.pack) (hz : x.z = true ↔ z)
    (hn : x.n = true ↔ n) (hh : x.h = true ↔ h) (hc : x.c = true ↔ c) : FlagsAre t z n h c := by
  unfold FlagsAre
  rw [hf, x.pack_getLsbD_z, x.pack_getLsbD_n, x.pack_getLsbD_h, x.pack_getLsbD_c]
  exact ⟨hz, hn, hh, hc, x.pack_low⟩

/-- The flags of SP plus an offset: Z and N clear, H and C the carries of the unsigned sum of SP's low byte and the raw byte. -/
theorem flagsAre_of_spOffset {t : State} {sp : Word} {n : Byte} (hf : t.cpu.f = (spOffsetFlags sp n).2.pack) :
    FlagsAre t False False (sp.toNat % 16 + n.toNat % 16 > 0x0F) (sp.toNat % 256 + n.toNat > 0xFF) :=
  have hclear : false = true ↔ False := Iff.of_eq Bool.false_eq_true
  flagsAre_of_pack hf hclear hclear decide_eq_true_iff decide_eq_true_iff

/-- The model's push is the statements' one: its two single steps of SP are one of two. -/
theorem push16_eq_pushed (s : State) (v : Word) : push16 s v = pushed s v := by
  have hsp : s.cpu.sp - 1 - 1 = s.cpu.sp - 2 := by bv_omega
  rw [push16_eq, hsp, State.withSp, busWrite_cpu, busWrite_cpu]
  rfl

/-- Settles O17: both instructions take the sum and the flags from the one computation of SP plus an offset. -/
theorem offsetFromSpResults : Obligations.OffsetFromSpResults := by
  intro n s
  refine ⟨⟨rfl, _, loadHlSpOffset_eq s n, flagsAre_of_spOffset rfl, ?_⟩,
    rfl, _, addSpOffset_eq s n, flagsAre_of_spOffset rfl, ?_⟩
  · rw [← addSext_eq]
    rfl
  · rw [← addSext_eq]
    rfl

/-- Settles O16, by the shapes of the three loads. -/
theorem wordLoadsCopyTheWord : Obligations.WordLoadsCopyTheWord := by
  intro r w s
  refine ⟨⟨encode_loadPairOf r w, ?_⟩, ⟨rfl, ?_⟩, rfl, ?_⟩
  · rw [exec_shape, shapeOf_loadPairOf]
    rfl
  · exact exec_shape .ldSpHl s
  · exact exec_shape (.ldIndA16Sp w) s

/-- Settles O18: the shape of `PUSH rr` is the model's push of the pair. -/
theorem pushStoresHighThenLow : Obligations.PushStoresHighThenLow := by
  intro r s
  refine ⟨encode_pushOf r, ?_⟩
  rw [exec_shape, shapeOf_pushOf, ← push16_eq_pushed]
  rfl

/-- Settles O19: the word on the stack has the two bytes read as its halves, and each pair takes them by its own writer. -/
theorem popLoadsLowThenHigh : Obligations.PopLoadsLowThenHigh := by
  intro r s
  refine ⟨encode_popOf r, ?_⟩
  rw [exec_shape, shapeOf_popOf, ← hiByte_topWord, ← loByte_topWord]
  cases r <;> rfl

end Sys2Proof.Laws
end

section
/-! SUPPORT. The 8-bit arithmetic and logic by its operands: exact values narrowed to bytes, DAA's adjustment as one number, the
bytes and the shapes of the instructions, and the flags of each computation as the statements write them (42_alu8 R199 to
R216). -/

namespace Sys2Proof.Machine

/-- `u8` of a difference of natural numbers, kept from falling below zero by a multiple of 256. -/
theorem u8_sub_natCast {m k : Nat} (n : Nat) (h : m ≤ 256 * k) : u8 ((n : Int) - m) = BitVec.ofNat 8 (n + 256 * k - m) := by
  apply BitVec.eq_of_toNat_eq
  simp only [u8, BitVec.toNat_ofInt, BitVec.toNat_ofNat]
  omega

/-- The complement of a byte as the model writes it. -/
theorem xor_FF_eq_not (v : Byte) : v ^^^ 0xFF = ~~~v := BitVec.xor_allOnes

/-- The sum ADD and ADC leave in A. -/
theorem addFlags_fst (a v : Byte) (cin : Bool) :
    (addFlags a v cin).1 = BitVec.ofNat 8 (a.toNat + v.toNat + cin.toNat) := u8_natCast _

theorem incFlags_fst (v : Byte) (carry : Bool) : (incFlags v carry).1 = BitVec.ofNat 8 (v.toNat + 1) := u8_natCast (v.toNat + 1)

theorem decFlags_fst (v : Byte) (carry : Bool) : (decFlags v carry).1 = BitVec.ofNat 8 (v.toNat + 255) :=
  u8_sub_natCast (m := 1) (k := 1) v.toNat (by decide)

/-- What DAA adds to A, or subtracts from it after a subtraction: the tests of A itself count after an addition alone
(42_alu8 R213). -/
def daaAdjustment (a : Byte) (n h c : Bool) : Nat :=
  (if h = true ∨ (¬n = true ∧ a.toNat % 16 > 0x09) then 0x06 else 0x00) +
    (if c = true ∨ (¬n = true ∧ a.toNat > 0x99) then 0x60 else 0x00)

theorem daaAdjustment_le (a : Byte) (n h c : Bool) : daaAdjustment a n h c ≤ 0x66 := by
  unfold daaAdjustment
  split <;> split <;> decide

/-- What DAA leaves in A. -/
theorem daaFlags_fst (a : Byte) (n h c : Bool) :
    (daaFlags a n h c).1 =
      if n = true then BitVec.ofNat 8 (a.toNat + 512 - daaAdjustment a n h c)
      else BitVec.ofNat 8 (a.toNat + daaAdjustment a n h c) := by
  cases n
  case true =>
    have hle := daaAdjustment_le a true h c
    rw [if_pos rfl, ← u8_sub_natCast (k := 2) a.toNat (by omega)]
    simp [daaFlags, daaAdjustment]
  case false =>
    rw [if_neg Bool.false_ne_true, ← u8_natCast]
    simp [daaFlags, daaAdjustment]

/-- DAA's flags: Z by the result, N kept, H clear, C kept or set by an addition's large A. -/
theorem daaFlags_snd (a : Byte) (n h c : Bool) :
    (daaFlags a n h c).2 =
      { z := (daaFlags a n h c).1 = 0, n := n, h := false, c := decide (c = true ∨ (¬n = true ∧ a.toNat > 0x99)) } := by
  cases n <;> simp [daaFlags]

end Sys2Proof.Machine

namespace Sys2Proof.Laws

open Sys2Proof.Machine Sys2Proof.Claims

/-! The bytes and the shapes. -/

/-- The bytes of an ALU instruction: the opcode with the index of the operation in its bits 5:3, and that of the register or the
immediate. -/
theorem encode_aluForm (x : AluForm) (op : AluOp) : encode (x.instr op) = x.bytes op := by
  cases x
  case reg r => cases op <;> cases r <;> rfl
  case imm v => cases op <;> rfl

theorem shapeOf_aluForm (x : AluForm) (op : AluOp) : shapeOf (x.instr op) = .aluA op (fun s => x.source s) x.cost := by
  cases x
  case reg r => cases op <;> cases r <;> rfl
  case imm v => cases op <;> rfl

/-- The byte of `INC r8`: the opcode with the index of the operand in its bits 5:3. -/
theorem encode_incOf (r : R8) : encode (incOf r) = [(0x04 : Byte) ||| code r <<< 3] := by
  cases r <;> rfl

/-- The byte of `DEC r8`: the opcode with the index of the operand in its bits 5:3. -/
theorem encode_decOf (r : R8) : encode (decOf r) = [(0x05 : Byte) ||| code r <<< 3] := by
  cases r <;> rfl

theorem shapeOf_incOf (r : R8) : shapeOf (incOf r) = .incR8 r (if r = .indHl then 12 else 4) := by
  cases r <;> rfl

theorem shapeOf_decOf (r : R8) : shapeOf (decOf r) = .decR8 r (if r = .indHl then 12 else 4) := by
  cases r <;> rfl

/-! The states answered. -/

/-- What an ALU instruction answers when its operation leaves `r` in A and the flags `y`. -/
theorem exec_of_alu {x : AluForm} {op : AluOp} {s : State} {r : Byte} {y : FlagBits}
    (h : alu op s.cpu.a (x.source s) s.flagC = (r, y)) :
    exec (x.instr op) s = .next { s with cpu := { s.cpu with a := r, f := y.pack }, cycles := x.cost } := by
  rw [exec_shape, shapeOf_aluForm, Shape.run, aluA_eq, h]
  rfl

theorem exec_incOf (r : R8) (s : State) :
    exec (incOf r) s =
      .next ((writeR8 (s.withFlags (incFlags (readR8 s r) s.flagC).2) r (incFlags (readR8 s r) s.flagC).1).took
        (if r = .indHl then 12 else 4)) := by
  rw [exec_shape, shapeOf_incOf, Shape.run, incR8_eq]

theorem exec_decOf (r : R8) (s : State) :
    exec (decOf r) s =
      .next ((writeR8 (s.withFlags (decFlags (readR8 s r) s.flagC).2) r (decFlags (readR8 s r) s.flagC).1).took
        (if r = .indHl then 12 else 4)) := by
  rw [exec_shape, shapeOf_decOf, Shape.run, decR8_eq]

/-- A write of `r8[r]` after the flags leaves those flags in F. -/
theorem took_writeR8_withFlags_f (s : State) (y : FlagBits) (r : R8) (v : Byte) (n : Nat) :
    ((writeR8 (s.withFlags y) r v).took n).cpu.f = y.pack :=
  (writeR8_kept (s.withFlags y) r v).1

/-- That state is the write of `r8[r]` in a state that differs by F alone. -/
theorem took_writeR8_withFlags_eq (s : State) (y : FlagBits) (r : R8) (v : Byte) (n : Nat) :
    (writeR8 (s.withFlags y) r v).took n =
      { writeR8 { s with cpu := { s.cpu with f := ((writeR8 (s.withFlags y) r v).took n).cpu.f } } r v with cycles := n } := by
  rw [took_writeR8_withFlags_f]
  rfl

/-! The flags. -/

section
variable {t : State}

theorem flagsAre_of_addFlags {a v : Byte} {cin : Bool} (hf : t.cpu.f = (addFlags a v cin).2.pack) :
    FlagsAre t ((a.toNat + v.toNat + cin.toNat) % 256 = 0) False (a.toNat % 16 + v.toNat % 16 + cin.toNat > 0x0F)
      (a.toNat + v.toNat + cin.toNat > 0xFF) := by
  have hz : u8 ((a.toNat + v.toNat + cin.toNat : Nat) : Int) = 0 ↔ (a.toNat + v.toNat + cin.toNat) % 256 = 0 := by
    rw [u8_eq_zero]
    omega
  exact flagsAre_of_pack hf (decide_eq_true_iff.trans hz) Bool.false_eq_true.to_iff decide_eq_true_iff decide_eq_true_iff

theorem flagsAre_of_subFlags {a v : Byte} {cin : Bool} (hf : t.cpu.f = (subFlags a v cin).2.pack) :
    FlagsAre t (((a.toNat : Int) - v.toNat - cin.toNat) % 256 = 0) True (a.toNat % 16 < v.toNat % 16 + cin.toNat)
      (a.toNat < v.toNat + cin.toNat) :=
  flagsAre_of_pack hf (decide_eq_true_iff.trans (u8_eq_zero _)) (iff_true_intro rfl) decide_eq_true_iff decide_eq_true_iff

theorem flagsAre_of_logicFlags {r : Byte} {h : Prop} [Decidable h] (hf : t.cpu.f = (logicFlags r (decide h)).2.pack) :
    FlagsAre t (r = 0) False h False :=
  flagsAre_of_pack hf decide_eq_true_iff Bool.false_eq_true.to_iff decide_eq_true_iff Bool.false_eq_true.to_iff

theorem flagsAre_of_incFlags {v : Byte} {carry : Bool} (hf : t.cpu.f = (incFlags v carry).2.pack) :
    FlagsAre t ((v.toNat + 1) % 256 = 0) False (v.toNat % 16 = 0x0F) (carry = true) := by
  have hz : u8 ((v.toNat : Int) + 1) = 0 ↔ (v.toNat + 1) % 256 = 0 := by
    rw [u8_eq_zero]
    omega
  exact flagsAre_of_pack hf (decide_eq_true_iff.trans hz) Bool.false_eq_true.to_iff decide_eq_true_iff Iff.rfl

theorem flagsAre_of_decFlags {v : Byte} {carry : Bool} (hf : t.cpu.f = (decFlags v carry).2.pack) :
    FlagsAre t (v.toNat = 1) True (v.toNat % 16 = 0x00) (carry = true) := by
  have hz : u8 ((v.toNat : Int) - 1) = 0 ↔ v.toNat = 1 := by
    have := v.isLt
    rw [u8_eq_zero]
    omega
  exact flagsAre_of_pack hf (decide_eq_true_iff.trans hz) (iff_true_intro rfl) decide_eq_true_iff Iff.rfl

end

/-- What an ALU operation answers that is the sum with a carry-in of `cin`. -/
theorem exec_of_alu_addFlags {x : AluForm} {op : AluOp} {s : State} {cin : Bool}
    (h : alu op s.cpu.a (x.source s) s.flagC = addFlags s.cpu.a (x.source s) cin) :
    let sum := s.cpu.a.toNat + (x.source s).toNat + cin.toNat
    ∃ t, exec (x.instr op) s = .next t ∧
      t = { s with cpu := { s.cpu with a := BitVec.ofNat 8 sum, f := t.cpu.f }, cycles := x.cost } ∧
      FlagsAre t (sum % 256 = 0) False (s.cpu.a.toNat % 16 + (x.source s).toNat % 16 + cin.toNat > 0x0F) (sum > 0xFF) := by
  refine ⟨_, exec_of_alu h, ?_, flagsAre_of_addFlags rfl⟩
  rw [← addFlags_fst]
  rfl

/-- Settles O20: ADD is the sum without a carry-in, ADC the sum with the carry flag. -/
theorem addAndAdcResults : Obligations.AddAndAdcResults := by
  intro x withCarry s
  cases withCarry
  case false => exact ⟨encode_aluForm x .add, exec_of_alu_addFlags (cin := false) rfl⟩
  case true => exact ⟨encode_aluForm x .adc, exec_of_alu_addFlags (cin := s.flagC) rfl⟩

/-- Settles O21: SUB and CP are the difference without a borrow-in, SBC the one with the carry flag; CP leaves A. -/
theorem subSbcAndCpResults : Obligations.SubSbcAndCpResults := by
  intro x op s hop
  refine ⟨encode_aluForm x op, ?_⟩
  rcases hop with rfl | rfl | rfl
  · exact ⟨_, exec_of_alu rfl, rfl, flagsAre_of_subFlags (cin := false) rfl⟩
  · exact ⟨_, exec_of_alu rfl, rfl, flagsAre_of_subFlags (cin := s.flagC) rfl⟩
  · exact ⟨_, exec_of_alu rfl, rfl, flagsAre_of_subFlags (cin := false) rfl⟩

/-- Settles O22: each operation is the logic computation of its own byte, whose bits are those of the statement. -/
theorem logicResults : Obligations.LogicResults := by
  intro x op s hop
  refine ⟨encode_aluForm x op, ?_⟩
  rcases hop with rfl | rfl | rfl
  · exact ⟨_, exec_of_alu rfl, rfl, fun i _ => BitVec.getLsbD_and, flagsAre_of_logicFlags rfl⟩
  · exact ⟨_, exec_of_alu rfl, rfl, fun i _ => BitVec.getLsbD_xor, flagsAre_of_logicFlags rfl⟩
  · exact ⟨_, exec_of_alu rfl, rfl, fun i _ => BitVec.getLsbD_or, flagsAre_of_logicFlags rfl⟩

/-- Settles O23: the flags stand in F before the write, which leaves F alone. -/
theorem incAndDecOfAByte : Obligations.IncAndDecOfAByte := by
  intro r s
  refine ⟨⟨encode_incOf r, _, exec_incOf r s, flagsAre_of_incFlags (took_writeR8_withFlags_f ..), ?_⟩,
    encode_decOf r, _, exec_decOf r s, flagsAre_of_decFlags (took_writeR8_withFlags_f ..), ?_⟩
  · rw [← incFlags_fst (readR8 s r) s.flagC]
    exact took_writeR8_withFlags_eq ..
  · rw [← decFlags_fst (readR8 s r) s.flagC]
    exact took_writeR8_withFlags_eq ..

/-- Settles O24, by DAA's adjustment as one number. -/
theorem decimalAdjustResult : Obligations.DecimalAdjustResult := by
  intro s a n h c low high r
  have hr : (daaFlags s.cpu.a s.flagN s.flagH s.flagC).1 = r := daaFlags_fst ..
  have hflags := daaFlags_snd s.cpu.a s.flagN s.flagH s.flagC
  refine ⟨rfl, _, (exec_shape .daa s).trans (adjustA_eq s), ?_, ?_⟩
  · rw [← hr]
    rfl
  · rw [← hr]
    exact flagsAre_of_pack (congrArg FlagBits.pack hflags) decide_eq_true_iff Iff.rfl Bool.false_eq_true.to_iff decide_eq_true_iff

/-- Settles O26: the three write flags given outright; CCF's C is the negation of the one before. -/
theorem complementAndCarryFlagResults : Obligations.ComplementAndCarryFlagResults := by
  intro s
  have htrue : true = true ↔ True := iff_true_intro rfl
  have hfalse : false = true ↔ False := Bool.false_eq_true.to_iff
  have hnot : (!s.flagC) = true ↔ ¬s.flagC = true := by rw [Bool.not_eq_true', Bool.not_eq_true]
  refine ⟨⟨rfl, _, exec_shape .cpl s, ?_, flagsAre_of_pack rfl Iff.rfl htrue htrue Iff.rfl⟩,
    ⟨rfl, _, exec_shape .scf s, rfl, flagsAre_of_pack rfl Iff.rfl hfalse hfalse htrue⟩,
    rfl, _, exec_shape .ccf s, rfl, flagsAre_of_pack rfl Iff.rfl hfalse hfalse hnot⟩
  rw [← xor_FF_eq_not]
  rfl

end Sys2Proof.Laws
end

section
/-! SUPPORT. The 16-bit arithmetic by its operands: the bytes and the shapes of the instructions, and the sum and the flags of
`ADD HL,rr` as the statements write them (43_alu16 R240 to R242). -/

namespace Sys2Proof.Machine

/-- The sum `ADD HL,rr` leaves in HL. -/
theorem addHlFlags_fst (h v : Word) (zero : Bool) : (addHlFlags h v zero).1 = BitVec.ofNat 16 (h.toNat + v.toNat) :=
  u16_natCast (h.toNat + v.toNat)

end Sys2Proof.Machine

namespace Sys2Proof.Laws

open Sys2Proof.Machine Sys2Proof.Claims

/-- The step of a pair up by 1 as the sum modulo 65536 of the statements. -/
theorem add_one_eq_ofNat (w : Word) : w + 1 = BitVec.ofNat 16 (w.toNat + 1) := BitVec.add_def w 1

/-- The step of a pair down by 1 as the sum modulo 65536 of the statements. -/
theorem sub_one_eq_ofNat (w : Word) : w - 1 = BitVec.ofNat 16 (w.toNat + 65535) :=
  (sub_one_eq_add_max w).trans (BitVec.add_def w 0xFFFF)

/-- The byte of `ADD HL,rr`: the opcode with the index of `rr` in its bits 5:4. -/
theorem encode_addHlOf (r : R16) : encode (addHlOf r) = [(0x09 : Byte) ||| pairCode r <<< 4] := by
  cases r <;> rfl

/-- The byte of `INC rr`: the opcode with the index of `rr` in its bits 5:4. -/
theorem encode_incPairOf (r : R16) : encode (incPairOf r) = [(0x03 : Byte) ||| pairCode r <<< 4] := by
  cases r <;> rfl

/-- The byte of `DEC rr`: the opcode with the index of `rr` in its bits 5:4. -/
theorem encode_decPairOf (r : R16) : encode (decPairOf r) = [(0x0B : Byte) ||| pairCode r <<< 4] := by
  cases r <;> rfl

theorem shapeOf_addHlOf (r : R16) : shapeOf (addHlOf r) = .addHl r := by
  cases r <;> rfl

theorem shapeOf_incPairOf (r : R16) : shapeOf (incPairOf r) = .incR16 r := by
  cases r <;> rfl

theorem shapeOf_decPairOf (r : R16) : shapeOf (decPairOf r) = .decR16 r := by
  cases r <;> rfl

theorem exec_addHlOf (r : R16) (s : State) :
    exec (addHlOf r) s =
      .next (((s.withFlags (addHlFlags s.hl (readR16 s r) s.flagZ).2).withHl
        (addHlFlags s.hl (readR16 s r) s.flagZ).1).took 8) := by
  rw [exec_shape, shapeOf_addHlOf, Shape.run, addHl_eq]

/-- The flags of `ADD HL,rr`: Z kept, N clear, H and C the carries out of bits 11 and 15. -/
theorem flagsAre_of_addHlFlags {t : State} {h v : Word} {zero : Bool} (hf : t.cpu.f = (addHlFlags h v zero).2.pack) :
    FlagsAre t (zero = true) False (h.toNat % 0x1000 + v.toNat % 0x1000 > 0x0FFF) (h.toNat + v.toNat > 0xFFFF) :=
  flagsAre_of_pack hf Iff.rfl Bool.false_eq_true.to_iff decide_eq_true_iff decide_eq_true_iff

/-- Settles O27: the shape of `ADD HL,rr` takes the sum and the flags from the one computation, whose Z is the flag of before. -/
theorem addToHlResult : Obligations.AddToHlResult := by
  intro r s
  refine ⟨encode_addHlOf r, _, exec_addHlOf r s, ?_, flagsAre_of_addHlFlags (zero := s.flagZ) rfl⟩
  rw [← addHlFlags_fst s.hl (readR16 s r) s.flagZ]
  rfl

/-- Settles O28: both shapes write the pair alone, and a step down by 1 is one up by 65535. -/
theorem incAndDecOfAPair : Obligations.IncAndDecOfAPair := by
  intro r s
  refine ⟨⟨encode_incPairOf r, ?_⟩, encode_decPairOf r, ?_⟩
  · rw [exec_shape, shapeOf_incPairOf, ← add_one_eq_ofNat]
    rfl
  · rw [exec_shape, shapeOf_decPairOf, ← sub_one_eq_ofNat]
    rfl

end Sys2Proof.Laws
end

section
/-! SUPPORT. The rotates, the shifts and the bit instructions by their operands: a rotated byte bit by bit, one bit of a byte
tested, cleared and set, and the bytes and the shapes of the instructions (44_rotate_shift_bit R250 to R265). -/

namespace Sys2Proof.Machine

/-! Bytes bit by bit. -/

/-- The byte `bitAt b k` has at most its bit `k` set. -/
theorem getLsbD_bitAt (b : Bool) (k : Nat) {i : Nat} (hi : i < 8) : (bitAt b k).getLsbD i = (b && decide (i = k)) := by
  cases b
  case false => exact BitVec.getLsbD_zero
  case true =>
    have hpow : (bitAt true k).getLsbD i = (decide (k < 8) && decide (k = i)) := BitVec.getLsbD_twoPow ..
    rw [hpow, Bool.true_and, ← Bool.decide_and]
    exact decide_eq_decide.mpr (by omega)

/-- A byte moved one bit up, with `b` entering at bit 0. -/
theorem getLsbD_shiftUp (v : Byte) (b : Bool) {i : Nat} (hi : i < 8) :
    (v <<< 1 ||| bitAt b 0).getLsbD i = if i = 0 then b else v.getLsbD (i - 1) := by
  rw [BitVec.getLsbD_or, BitVec.getLsbD_shiftLeft, getLsbD_bitAt b 0 hi]
  by_cases h : i = 0
  · simp [h]
  · simp [h, hi]

/-- A byte moved one bit down, with `b` entering at bit 7. -/
theorem getLsbD_shiftDown (v : Byte) (b : Bool) {i : Nat} (hi : i < 8) :
    (v >>> 1 ||| bitAt b 7).getLsbD i = if i = 7 then b else v.getLsbD (i + 1) := by
  rw [BitVec.getLsbD_or, BitVec.getLsbD_ushiftRight, getLsbD_bitAt b 7 hi, Nat.add_comm 1 i]
  by_cases h : i = 7
  · simp [h]
  · simp [h]

/-- The sign bit of a byte in its place. -/
theorem and_0x80_eq_bitAt (v : Byte) : v &&& 0x80 = bitAt (bit v 7) 7 := by revert v; decide

/-- A byte with its nibbles exchanged. -/
theorem getLsbD_swapNibbles (v : Byte) {i : Nat} (hi : i < 8) :
    (v <<< 4 ||| v >>> 4).getLsbD i = v.getLsbD ((i + 4) % 8) := by
  rw [BitVec.getLsbD_or, BitVec.getLsbD_shiftLeft, BitVec.getLsbD_ushiftRight]
  by_cases h : i < 4
  · have hmod : (i + 4) % 8 = 4 + i := by omega
    simp [h, hmod]
  · have hmod : (i + 4) % 8 = i - 4 := by omega
    have hout : v.getLsbD (4 + i) = false := BitVec.getLsbD_of_ge v _ (by omega)
    simp [h, hi, hmod, hout]

/-- A byte with its bit `b` cleared. -/
theorem getLsbD_clearBit (v : Byte) (b : Nat) {j : Nat} (hj : j < 8) :
    (v &&& ~~~(bitAt true b)).getLsbD j = (v.getLsbD j && decide (j ≠ b)) := by
  rw [BitVec.getLsbD_and, BitVec.getLsbD_not, getLsbD_bitAt true b hj]
  simp [hj]

/-- A byte with its bit `b` set. -/
theorem getLsbD_setBit (v : Byte) (b : Nat) {j : Nat} (hj : j < 8) :
    (v ||| bitAt true b).getLsbD j = (v.getLsbD j || decide (j = b)) := by
  rw [BitVec.getLsbD_or, getLsbD_bitAt true b hj, Bool.true_and]

end Sys2Proof.Machine

namespace Sys2Proof.Laws

open Sys2Proof.Machine Sys2Proof.Claims

/-! The byte and the carry of a rotate or shift. -/

/-- A rotated or shifted byte, bit by bit: the operations that move it one bit differ in the bit that enters. -/
theorem rotate_fst_getLsbD (op : RotOp) (v : Byte) (carry : Bool) {i : Nat} (hi : i < 8) :
    (rotate op v carry).1.getLsbD i = rotatedBit op v carry i := by
  cases op
  case rlc =>
    refine (getLsbD_shiftUp v (bit v 7) hi).trans ?_
    by_cases h : i = 0
    · rw [if_pos h, h]
      rfl
    · have hmod : (i + 7) % 8 = i - 1 := by omega
      rw [if_neg h, rotatedBit, hmod]
  case rrc =>
    refine (getLsbD_shiftDown v (bit v 0) hi).trans ?_
    by_cases h : i = 7
    · rw [if_pos h, h]
      rfl
    · have hmod : (i + 1) % 8 = i + 1 := by omega
      rw [if_neg h, rotatedBit, hmod]
  case rl => exact getLsbD_shiftUp v carry hi
  case rr => exact getLsbD_shiftDown v carry hi
  case sla =>
    rw [rotate, ← BitVec.or_zero (x := v <<< 1)]
    exact getLsbD_shiftUp v false hi
  case sra =>
    rw [rotate, and_0x80_eq_bitAt]
    exact getLsbD_shiftDown v (bit v 7) hi
  case swap => exact getLsbD_swapNibbles v hi
  case srl =>
    rw [rotate, ← BitVec.or_zero (x := v >>> 1)]
    exact getLsbD_shiftDown v false hi

/-- The carry after a rotate or shift is the bit that left the byte. -/
theorem rotate_snd (op : RotOp) (v : Byte) (carry : Bool) : (rotate op v carry).2 = carryOut op v := by
  cases op <;> rfl

/-! The bytes and the shapes. -/

/-- The bytes of a rotate or shift: after 0xCB the index of the operation in bits 5:3 and that of the operand. -/
theorem encode_rotOf (op : RotOp) (r : R8) : encode (rotOf op r) = [(0xCB : Byte), rotCode op <<< 3 ||| code r] := by
  cases op <;> cases r <;> rfl

theorem shapeOf_rotOf (op : RotOp) (r : R8) : shapeOf (rotOf op r) = .rotateR8 op r (if r = .indHl then 16 else 8) := by
  cases op <;> cases r <;> rfl

/-- The bytes and the shapes of the eight `BIT b,r8` of an operand. -/
theorem bitRow_bytes_shapes (r : R8) :
    (bitRow r).map (fun i => (encode i, shapeOf i)) = (List.range 8).map fun b =>
      ([(0xCB : Byte), (0x40 : Byte) ||| BitVec.ofNat 8 b <<< 3 ||| code r], .bitBit b r (if r = .indHl then 12 else 8)) := by
  cases r <;> rfl

/-- The bytes and the shapes of the eight `RES b,r8` of an operand. -/
theorem resRow_bytes_shapes (r : R8) :
    (resRow r).map (fun i => (encode i, shapeOf i)) = (List.range 8).map fun b =>
      ([(0xCB : Byte), (0x80 : Byte) ||| BitVec.ofNat 8 b <<< 3 ||| code r], .resBit b r (if r = .indHl then 16 else 8)) := by
  cases r <;> rfl

/-- The bytes and the shapes of the eight `SET b,r8` of an operand. -/
theorem setRow_bytes_shapes (r : R8) :
    (setRow r).map (fun i => (encode i, shapeOf i)) = (List.range 8).map fun b =>
      ([(0xCB : Byte), (0xC0 : Byte) ||| BitVec.ofNat 8 b <<< 3 ||| code r], .setBit b r (if r = .indHl then 16 else 8)) := by
  cases r <;> rfl

/-- The instruction of a bit in a row of eight has the bytes and the shape the row gives that bit. -/
theorem exists_of_row {row : List Instr} {x : Nat → List Byte × Shape}
    (h : row.map (fun i => (encode i, shapeOf i)) = (List.range 8).map x) {b : Nat} (hb : b < 8) :
    ∃ i, row[b]? = some i ∧ encode i = (x b).1 ∧ shapeOf i = (x b).2 := by
  have hx : (row.map fun i => (encode i, shapeOf i))[b]? = some (x b) := by
    rw [h, List.getElem?_map, List.getElem?_range hb]
    rfl
  rw [List.getElem?_map] at hx
  obtain ⟨i, hi, hix⟩ := Option.map_eq_some_iff.mp hx
  exact ⟨i, hi, congrArg Prod.fst hix, congrArg Prod.snd hix⟩

/-! The states answered. -/

/-- An instruction answers what its shape does. -/
theorem exec_of_shapeOf {i : Instr} {x : Shape} (h : shapeOf i = x) (s : State) : exec i s = x.run s := by
  rw [exec_shape, h]

theorem exec_rotOf (op : RotOp) (r : R8) (s : State) :
    exec (rotOf op r) s =
      .next ((writeR8 (s.withFlags (rotateFlags op (readR8 s r) s.flagC).2) r (rotateFlags op (readR8 s r) s.flagC).1).took
        (if r = .indHl then 16 else 8)) := by
  rw [exec_shape, shapeOf_rotOf, Shape.run, rotateR8_eq]

/-- The flags of a rotate or shift of the secondary table: Z by the result, C the bit that left the byte. -/
theorem flagsAre_of_rotateFlags {t : State} {op : RotOp} {v : Byte} {carry : Bool}
    (hf : t.cpu.f = (rotateFlags op v carry).2.pack) :
    FlagsAre t ((rotate op v carry).1 = 0) False False (carryOut op v = true) := by
  have hfalse : false = true ↔ False := Bool.false_eq_true.to_iff
  rw [← rotate_snd op v carry]
  exact flagsAre_of_pack hf decide_eq_true_iff hfalse hfalse Iff.rfl

/-- What a rotate of A answers: the byte and the carry of the secondary rotate, with Z clear. -/
theorem exec_of_shapeOf_rotateA {i : Instr} {op : RotOp} (h : shapeOf i = .rotateA op) (s : State) :
    ∃ w t, (∀ j < 8, w.getLsbD j = rotatedBit op s.cpu.a (s.cpu.f.getLsbD 4) j) ∧ exec i s = .next t ∧
      t = { s with cpu := { s.cpu with a := w, f := t.cpu.f }, cycles := 4 } ∧
      FlagsAre t False False False (carryOut op s.cpu.a = true) := by
  have hfalse : false = true ↔ False := Bool.false_eq_true.to_iff
  rw [← rotate_snd op s.cpu.a s.flagC]
  exact ⟨_, _, fun j hj => rotate_fst_getLsbD op s.cpu.a s.flagC hj, (exec_of_shapeOf h s).trans (rotateA_eq s op), rfl,
    flagsAre_of_pack rfl hfalse hfalse hfalse Iff.rfl⟩

/-- Settles O29: a rotate of the secondary table is one shape with its flags in F before the write, and a rotate of A is the same
computation with Z clear. -/
theorem rotateAndShiftResults : Obligations.RotateAndShiftResults := by
  refine ⟨fun op r s => ?_, fun s => ?_⟩
  · have hbits := fun i (hi : i < 8) => rotate_fst_getLsbD op (readR8 s r) s.flagC hi
    exact ⟨encode_rotOf op r, _, _, hbits, exec_rotOf op r s, took_writeR8_withFlags_eq ..,
      flagsAre_of_rotateFlags (took_writeR8_withFlags_f ..)⟩
  · simp only [List.forall_mem_cons]
    exact ⟨⟨rfl, exec_of_shapeOf_rotateA (i := .rlca) rfl s⟩, ⟨rfl, exec_of_shapeOf_rotateA (i := .rrca) rfl s⟩,
      ⟨rfl, exec_of_shapeOf_rotateA (i := .rla) rfl s⟩, ⟨rfl, exec_of_shapeOf_rotateA (i := .rra) rfl s⟩,
      List.forall_mem_nil _⟩

/-- Settles O30: each row gives the instruction of the bit with its shape, whose byte is the operand with that bit changed. -/
theorem bitInstructionResults : Obligations.BitInstructionResults := by
  intro r b s hb v
  obtain ⟨bitI, hbit, hbitBytes, hbitShape⟩ := exists_of_row (bitRow_bytes_shapes r) hb
  obtain ⟨resI, hres, hresBytes, hresShape⟩ := exists_of_row (resRow_bytes_shapes r) hb
  obtain ⟨setI, hset, hsetBytes, hsetShape⟩ := exists_of_row (setRow_bytes_shapes r) hb
  have hz : (!bit v b) = true ↔ v.getLsbD b = false := by rw [Bool.not_eq_true', bit]
  refine ⟨⟨bitI, hbit, hbitBytes, _, exec_of_shapeOf hbitShape s, rfl, ?_⟩,
    ⟨resI, hres, hresBytes, _, fun j hj => getLsbD_clearBit v b hj, exec_of_shapeOf hresShape s⟩,
    setI, hset, hsetBytes, _, fun j hj => getLsbD_setBit v b hj, exec_of_shapeOf hsetShape s⟩
  exact flagsAre_of_pack rfl hz Bool.false_eq_true.to_iff (iff_true_intro rfl) Iff.rfl

end Sys2Proof.Laws
end

section
/-! SUPPORT. Control transfer by its conditions: a condition as a bit of F, the signed offset of JR as a sum, the bytes and the
shapes of the instructions, and the states that a push and a pop of PC leave (45_control R279 to R290). -/

namespace Sys2Proof.Laws

open Sys2Proof.Machine Sys2Proof.Claims

/-- The model's condition is the bit of F the statements name. -/
theorem holds_eq_taken (s : State) (cc : Cond) : s.holds cc = taken s cc := by
  cases cc <;> rfl

/-! The bytes and the shapes. -/

/-- The bytes of `JP cc,a16`: the opcode with the index of `cc` in its bits 4:3, and the target, low byte first. -/
theorem encode_jumpOf (cc : Cond) (w : Word) :
    encode (jumpOf cc w) = [(0xC2 : Byte) ||| condCode cc <<< 3, loByte w, hiByte w] := by
  cases cc <;> rfl

/-- The bytes of `JR cc,e8`: the opcode with the index of `cc` in its bits 4:3, and the offset. -/
theorem encode_relativeOf (cc : Cond) (n : Byte) :
    encode (relativeOf cc n) = [(0x20 : Byte) ||| condCode cc <<< 3, n] := by
  cases cc <;> rfl

/-- The bytes of `CALL cc,a16`: the opcode with the index of `cc` in its bits 4:3, and the target, low byte first. -/
theorem encode_callOf (cc : Cond) (w : Word) :
    encode (callOf cc w) = [(0xC4 : Byte) ||| condCode cc <<< 3, loByte w, hiByte w] := by
  cases cc <;> rfl

/-- The byte of `RET cc`: the opcode with the index of `cc` in its bits 4:3. -/
theorem encode_returnOf (cc : Cond) : encode (returnOf cc) = [(0xC0 : Byte) ||| condCode cc <<< 3] := by
  cases cc <;> rfl

theorem shapeOf_jumpOf (cc : Cond) (w : Word) : shapeOf (jumpOf cc w) = .jumpIf cc w := by
  cases cc <;> rfl

theorem shapeOf_relativeOf (cc : Cond) (n : Byte) : shapeOf (relativeOf cc n) = .jumpRelativeIf cc n := by
  cases cc <;> rfl

theorem shapeOf_callOf (cc : Cond) (w : Word) : shapeOf (callOf cc w) = .callIf cc w := by
  cases cc <;> rfl

theorem shapeOf_returnOf (cc : Cond) : shapeOf (returnOf cc) = .retIf cc := by
  cases cc <;> rfl

/-- The bytes and the shapes of the eight `RST n`. -/
theorem restarts_bytes_shapes :
    restarts.map (fun i => (encode i, shapeOf i)) = (List.range 8).map fun y =>
      ([(0xC7 : Byte) ||| BitVec.ofNat 8 y <<< 3], .callTo (BitVec.ofNat 16 (8 * y)) 16) :=
  rfl

/-! The states answered. -/

/-- What a call leaves: the two bytes of PC stored below SP, and PC at the target. -/
theorem took_withPc_push16_eq (s : State) (v t : Word) (k : Nat) :
    ((push16 s v).withPc t).took k =
      { pushed s v with cpu := { s.cpu with sp := s.cpu.sp - 2, pc := t }, cycles := k } := by
  rw [push16_eq_pushed]
  rfl

/-- What a call to a target answers. -/
theorem exec_of_shapeOf_callTo {i : Instr} {t : Word} {k : Nat} (h : shapeOf i = .callTo t k) (s : State) :
    exec i s = .next
      { pushed s s.cpu.pc with cpu := { s.cpu with sp := s.cpu.sp - 2, pc := t }, cycles := k } := by
  rw [exec_of_shapeOf h, Shape.run, callTo, took_withPc_push16_eq]

/-- Settles O31, by the shapes of the jumps: the conditional ones test the same bit of F, and the offset of JR is a sum. -/
theorem jumpsSetPc : Obligations.JumpsSetPc := by
  intro cc w n s
  rw [← addSext_eq, ← holds_eq_taken]
  exact ⟨⟨rfl, exec_shape (.jpA16 w) s⟩, ⟨encode_jumpOf cc w, exec_of_shapeOf (shapeOf_jumpOf cc w) s⟩,
    ⟨rfl, exec_shape .jpHl s⟩, ⟨rfl, exec_shape (.jrE8 n) s⟩,
    encode_relativeOf cc n, exec_of_shapeOf (shapeOf_relativeOf cc n) s⟩

/-- Settles O32: every call is the one push of PC with its target, and the restarts are the row of the eight targets. -/
theorem callsPushTheReturnAddress : Obligations.CallsPushTheReturnAddress := by
  intro cc w s
  refine ⟨⟨rfl, exec_of_shapeOf_callTo (i := .callA16 w) rfl s⟩, ⟨encode_callOf cc w, ?_⟩, fun y hy => ?_⟩
  · rw [exec_of_shapeOf (shapeOf_callOf cc w), Shape.run, callIf, took_withPc_push16_eq, holds_eq_taken]
    rfl
  · obtain ⟨i, hi, hbytes, hshape⟩ := exists_of_row restarts_bytes_shapes hy
    exact ⟨i, hi, hbytes, exec_of_shapeOf_callTo hshape s⟩

/-- Settles O33, by the shapes of the returns: RETI is the pop of PC with the two interrupt enables written. -/
theorem returnsPopPc : Obligations.ReturnsPopPc := by
  intro cc s
  rw [← holds_eq_taken]
  exact ⟨⟨rfl, exec_shape .ret s⟩, ⟨encode_returnOf cc, exec_of_shapeOf (shapeOf_returnOf cc) s⟩, rfl, exec_shape .reti s⟩

end Sys2Proof.Laws
end

section
/-! SUPPORT. A CPU step that runs an instruction, by the instruction its bytes decode to; and the bytes and the shapes of the system
instructions and the illegal opcodes (46_system R300 to R306, 60_exceptions R330, R331). -/

namespace Sys2Proof.Laws

open Sys2Proof.Machine Sys2Proof.Claims

/-! The length of the decoded instruction. -/

/-- Every cell of the primary table builds an instruction of its length; the cell of 0xCB builds one of the secondary table. -/
theorem length_encode_decodeBytes (b0 b1 b2 : Byte) : (encode (decodeBytes b0 b1 b2)).length = instrLength b0 := by
  have h : ∀ n < 256, (encode (decodeBytes (BitVec.ofNat 8 n) b1 b2)).length = instrLength (BitVec.ofNat 8 n) := by
    intro n hn
    obtain hlt | hcb | hgt := Nat.lt_trichotomy n 0xCB
    · interval_cases n <;> rfl
    · rw [hcb]
      exact congrArg List.length (secondary_forms b1).2.2
    · interval_cases n <;> rfl
  simpa using h b0.toNat b0.isLt

/-- What three bytes decode to is the instruction of the total decoder. -/
theorem decodeBytes_of_decode {b0 b1 b2 : Byte} {i : Instr} {rest : List Byte} (h : decode [b0, b1, b2] = .ok (i, rest)) :
    decodeBytes b0 b1 b2 = i := by
  obtain ⟨_, hd⟩ := decode_of_three b0 b1 b2 (instrLength_le b0)
  rw [hd] at h
  cases h
  rfl

/-! The step that runs an instruction. -/

/-- The instruction part of a step is `exec` of what the bytes at PC decode to, with the pending enable applied and PC past it. -/
theorem runInstr_of_decode {s : State} {i : Instr} {rest : List Byte}
    (h : decode [busRead s s.cpu.pc, busRead s (s.cpu.pc + 1), busRead s (s.cpu.pc + 2)] = .ok (i, rest)) :
    runInstr s = exec i
      { s with
        irq := { s.irq with ime := s.irq.ime || s.irq.imePending, imePending := false }
        cpu := { s.cpu with pc := s.cpu.pc + BitVec.ofNat 16 (encode i).length } } := by
  rw [runInstr_eq, ← length_encode_decodeBytes, decodeBytes_of_decode h]

/-- A CPU step that neither idles nor takes an interrupt runs an instruction, the halted state left. -/
theorem cpuStep_eq_runInstr {s : State} (hs : s.cpu.stopped = false) (hh : s.pending = none → s.cpu.halted = false)
    (hi : s.pending = none ∨ s.irq.ime = false) : cpuStep s = runInstr (wake s) := by
  obtain ⟨hs', _⟩ | ⟨_, hp, hh', _⟩ | ⟨k, _, hp, hi', _⟩ | ⟨_, _, _, h⟩ := cpuStep_cases s
  · exact absurd hs' (by simp [hs])
  · exact absurd hh' (by simp [hh hp])
  · exact absurd hi (by simp [hp, hi'])
  · exact h

/-- A system step whose CPU step is one instruction's meaning is that instruction's next state, then the devices. -/
theorem exists_step_of_cpuStep_eq_exec {s u : State} {i : Instr} (h : cpuStep (takeInput s) = exec i u) :
    ∃ t, exec i u = .next t ∧ step s = .next (advanceDevices t) := by
  obtain ⟨t, ht, _⟩ := exec_effect i u
  exact ⟨t, ht, step_eq (h.trans ht)⟩

/-! The bytes and the shapes. -/

/-- An illegal opcode is its one byte, and no operation. -/
theorem illegals_bytes_shapes :
    illegals.map (fun x => (encode x.2, shapeOf x.2)) = illegals.map fun x => ([x.1], .noOperation 4) :=
  rfl

/-- Settles O9: with IME clear the step runs an instruction whatever is pending, with IME set from the pending enable. -/
theorem enableTakesEffectAfterOneInstruction : Obligations.EnableTakesEffectAfterOneInstruction := by
  refine ⟨fun s => exec_shape .ei s, fun s i rest hs hh hime hpend hdec => exists_step_of_cpuStep_eq_exec ?_⟩
  rw [cpuStep_eq_runInstr hs (fun _ => hh) (.inr hime), wake_of_not_halted hh, runInstr_of_decode hdec, hpend, Bool.or_true]

/-- Settles O35, by the shapes of the system instructions; the illegal opcodes share the shape of NOP. -/
theorem systemInstructionResults : Obligations.SystemInstructionResults := by
  intro pad s
  refine ⟨⟨rfl, exec_shape .nop s⟩, ⟨rfl, exec_shape .halt s⟩, ⟨rfl, exec_shape (.stop pad) s⟩, ⟨rfl, exec_shape .di s⟩,
    ⟨rfl, exec_shape .ei s⟩, fun x hx => ?_⟩
  have hform := List.map_inj_left.mp illegals_bytes_shapes x hx
  exact ⟨congrArg Prod.fst hform, exec_of_shapeOf (congrArg Prod.snd hform) s⟩

end Sys2Proof.Laws
end

section
/-! SUPPORT. The interrupt controller and the steps that run no instruction: the pending kind by the bits of IE and IF, taking an
interrupt, idling, and the halted state left without service (60_exceptions R320 to R336). -/

namespace Sys2Proof.Machine

/-! The pending kind. -/

/-- The five kinds in the order `pending()` tries them (60_exceptions R325). -/
def kindsByPriority : List IrqKind := [.vBlank, .lcdStat, .timer, .serial, .joypad]

theorem State.pending_eq_find? (s : State) : s.pending = kindsByPriority.find? s.irq.isPending := rfl

theorem IrqKind.number_lt (k : IrqKind) : k.number < kindsByPriority.length := by cases k <;> decide

theorem kindsByPriority_getElem_number (k : IrqKind) : kindsByPriority[k.number]'k.number_lt = k := by cases k <;> rfl

theorem number_kindsByPriority_getElem : ∀ i (hi : i < kindsByPriority.length), kindsByPriority[i].number = i := by decide

/-- A kind is enabled and requested when its bit stands in IE and in IF at once. -/
theorem Interrupts.isPending_eq (q : Interrupts) (k : IrqKind) :
    q.isPending k = (q.ie &&& q.ifl.setWidth 8).getLsbD k.number := by
  have hk : k.number < 8 := by cases k <;> decide
  simp [Interrupts.isPending, hk]

/-- Bits 4:0 of a byte are clear when the bit of every kind is. -/
theorem and_0x1F_eq_zero_iff (v : Byte) : v &&& 0x1F = 0 ↔ ∀ k ∈ kindsByPriority, v.getLsbD k.number = false := by
  revert v; decide

theorem State.pending_eq_none_iff (s : State) : s.pending = none ↔ s.irq.ie &&& s.irq.ifl.setWidth 8 &&& 0x1F = 0 := by
  rw [State.pending_eq_find?, List.find?_eq_none, and_0x1F_eq_zero_iff]
  simp only [Interrupts.isPending_eq, Bool.not_eq_true]

/-- Trying the kinds in order finds one that `p` holds of and no kind of a smaller number has. -/
theorem find?_kindsByPriority_eq_some_iff (p : IrqKind → Bool) (k : IrqKind) :
    kindsByPriority.find? p = some k ↔ p k = true ∧ ∀ j : IrqKind, j.number < k.number → p j = false := by
  rw [List.find?_eq_some_iff_getElem]
  refine and_congr_right fun _ => ⟨?_, fun h => ⟨k.number, k.number_lt, kindsByPriority_getElem_number k, fun i hi => ?_⟩⟩
  · rintro ⟨i, hi, rfl, hlt⟩ j hj
    rw [number_kindsByPriority_getElem] at hj
    simpa [kindsByPriority_getElem_number] using hlt j.number hj
  · rw [h _ (by rwa [number_kindsByPriority_getElem])]
    rfl

end Sys2Proof.Machine

namespace Sys2Proof.Laws

open Sys2Proof.Machine Sys2Proof.Claims

/-- Settles O7: the kinds are tried in the order of their numbers, each by its bit of IE and IF together. -/
theorem pendingIsTheFirstEnabledRequest : Obligations.PendingIsTheFirstEnabledRequest := by
  intro s
  refine ⟨s.pending_eq_none_iff, fun k => ?_⟩
  simp only [← Interrupts.isPending_eq]
  exact find?_kindsByPriority_eq_some_iff _ k

/-! The steps that run no instruction. -/

/-- A stopped CPU, and a halted one with nothing pending, idles for 4 cycles. -/
theorem cpuStep_eq_took {s : State} (h : s.cpu.stopped = true ∨ (s.cpu.halted = true ∧ s.pending = none)) :
    cpuStep s = .next (s.took 4) := by
  obtain ⟨_, hn⟩ | ⟨_, _, _, hn⟩ | ⟨k, hs, hp, _⟩ | ⟨hs, hh, _⟩ := cpuStep_cases s
  · exact hn
  · exact hn
  · simp [hs, hp] at h
  · obtain h | ⟨hh', hp⟩ := h
    · simp [hs] at h
    · simp [hh hp] at hh'

/-- With IME set and a kind pending, a CPU that is not stopped takes that interrupt. -/
theorem cpuStep_eq_dispatch {s : State} {k : IrqKind} (hs : s.cpu.stopped = false) (hp : s.pending = some k)
    (hi : s.irq.ime = true) : cpuStep s = .next (dispatch (wake s) k) := by
  simp [cpuStep, checkAndRun, hs, hp, hi]

/-- What taking an interrupt leaves: the two enables, the halted state and the request bit cleared, then PC pushed. -/
theorem dispatch_wake_eq (s : State) (k : IrqKind) :
    dispatch (wake s) k =
      ((pushed
          { s with
            irq := { s.irq with ime := false, imePending := false, ifl := s.irq.ifl &&& ~~~((1 : BitVec 5) <<< k.number) }
            cpu := { s.cpu with halted := false } } s.cpu.pc).withPc k.vector).took 20 := by
  rw [← push16_eq_pushed]
  rfl

/-- The devices advance by the cycles the CPU step took. -/
theorem advanceDevices_took (s : State) (n : Nat) : advanceDevices (s.took n) = ppuStep n (timerStep n (s.took n)) := rfl

/-- Settles O8: the state that taking the interrupt leaves, with the devices advanced by its 20 cycles. -/
theorem dispatchEntersTheVector : Obligations.DispatchEntersTheVector := by
  refine ⟨⟨rfl, rfl, rfl, rfl, rfl⟩, fun s k hs hp hi => ?_⟩
  rw [step_eq (cpuStep_eq_dispatch hs hp hi), dispatch_wake_eq, advanceDevices_took]
  rfl

/-- Settles O5: the CPU step answers a next state, and the devices after it always do. -/
theorem everyStepAnswersANextState : Obligations.EveryStepAnswersANextState := by
  intro s
  obtain ⟨t, ht⟩ := cpuStep_next (takeInput s)
  exact ⟨advanceDevices t, step_eq ht⟩

/-! The halted state left without service. -/

/-- With no enable pending, point 5 of the CPU step leaves the interrupt state as it is. -/
theorem pendingEnable_of_not_pending {q : Interrupts} (h : q.imePending = false) :
    { q with ime := q.ime || q.imePending, imePending := false } = q := by
  rw [h, Bool.or_false, ← h]

theorem advanceDevices_cpu (s : State) : (advanceDevices s).cpu = s.cpu := by
  obtain ⟨_, _, _, _, h⟩ := advanceDevices_eq s
  rw [h]

/-- Settles O10: with IME clear a pending kind only ends the halted state, and an IF bit not enabled makes nothing pending. -/
theorem haltEndsWithoutService : Obligations.HaltEndsWithoutService := by
  intro s u enabled hs hh
  have hnone : u.pending = none ↔ enabled = 0 := u.pending_eq_none_iff
  refine ⟨fun i rest hen hime hpend hdec => exists_step_of_cpuStep_eq_exec ?_, fun hen => ?_⟩
  · rw [cpuStep_eq_runInstr hs (fun hp => absurd (hnone.mp hp) hen) (.inr hime), runInstr_of_decode (s := wake u) hdec,
      pendingEnable_of_not_pending (q := (wake u).irq) hpend]
    rfl
  · exact ⟨_, step_eq (cpuStep_eq_took (.inr ⟨hh, hnone.mpr hen⟩)), advanceDevices_cpu _⟩

end Sys2Proof.Laws
end

section
/-! SUPPORT. The timer: when its signal falls, a cycle unit by the reload window it finds, and the window after an overflow
(61_timer R370 to R377). -/

namespace Sys2Proof.Machine

open Sys2Proof.Claims

/-! The signal. -/

/-- The signal is the enable with the bit of the counter that `TAC[1:0]` selects. -/
theorem Timer.signal_eq (t : Timer) : t.signal = (t.tac.getLsbD 2 && t.sysCounter.getLsbD (timerBit t.tac)) := rfl

theorem Timer.signal_sysCounter_zero (t : Timer) : Timer.signal { t with sysCounter := 0 } = false := by
  simp [Timer.signal_eq]

theorem timerBit_cases (tac : BitVec 3) : timerBit tac = 9 ∨ timerBit tac = 3 ∨ timerBit tac = 5 ∨ timerBit tac = 7 := by
  revert tac; decide

/-- A bit of a counter by division: it is clear when the quotient is even. -/
theorem getLsbD_eq_false_iff (c : Word) (b : Nat) : c.getLsbD b = false ↔ c.toNat / 2 ^ b % 2 = 0 := by
  rw [BitVec.getLsbD, Nat.testBit_eq_decide_div_mod_eq, decide_eq_false_iff_not, ← Nat.mod_two_ne_one, ne_eq]

/-- The clock bit that falls in a cycle unit stays clear for the seven units after it: the bits below it are clear, and there are
at least three of them. -/
theorem timerBit_stays_clear {c : Word} {tac : BitVec 3} (hset : c.getLsbD (timerBit tac) = true)
    (hfalls : (c + 1).getLsbD (timerBit tac) = false) {n : Nat} (hn : n < 8) :
    (c + 1 + BitVec.ofNat 16 n).getLsbD (timerBit tac) = false := by
  rw [← Bool.not_eq_false, getLsbD_eq_false_iff] at hset
  rw [getLsbD_eq_false_iff] at hfalls ⊢
  have hc := c.isLt
  simp only [BitVec.ofNat_eq_ofNat, BitVec.toNat_add, BitVec.toNat_ofNat] at hfalls ⊢
  obtain h | h | h | h := timerBit_cases tac <;> (rw [h] at hset hfalls ⊢; omega)

/-! A cycle unit. -/

/-- A unit across which the signal falls increments TIMA. -/
theorem Timer.count_of_falling {t : Timer} (h : t.signal = true)
    (hfalls : Timer.signal { t with sysCounter := t.sysCounter + 1 } = false) :
    t.count = Timer.increment { t with sysCounter := t.sysCounter + 1 } := by
  rw [Timer.count, Timer.afterEdge, h, hfalls, Bool.not_false, Bool.and_true, if_pos rfl]

/-- A unit that starts without the signal counts no edge. -/
theorem Timer.count_of_not_signal {t : Timer} (h : t.signal = false) :
    t.count = { t with sysCounter := t.sysCounter + 1 } := by
  rw [Timer.count, Timer.afterEdge, h, Bool.false_and, if_neg Bool.false_ne_true]

theorem Timer.reload_of_closed {t : Timer} (h : t.reloadDelay = 0) : t.reload = (t, false) := if_pos h

theorem Timer.reload_of_due {t : Timer} (h : t.reloadDelay = 1) :
    t.reload = ({ t with reloadDelay := 0, tima := t.tma }, true) := by
  rw [Timer.reload, if_neg (by omega), if_pos h]

theorem Timer.reload_of_pending {t : Timer} (h : 2 ≤ t.reloadDelay) :
    t.reload = ({ t with reloadDelay := t.reloadDelay - 1 }, false) := by
  rw [Timer.reload, if_neg (by omega), if_neg (by omega)]

/-- The reload leaves the signal, which depends on neither TIMA nor the window. -/
theorem Timer.signal_reload (t : Timer) : t.reload.1.signal = t.signal := by
  unfold Timer.reload
  split
  · rfl
  · split <;> rfl

/-- With no reload pending, a unit is the counter's advance alone. -/
theorem timerTick_of_closed {s : State} (h : s.timer.reloadDelay = 0) : timerTick s = { s with timer := s.timer.count } := by
  rw [timerTick, Timer.reload_of_closed h]
  rfl

/-- Before the last unit of the reload window, a unit without an edge shortens the window and counts. -/
theorem timerTick_of_pending {s : State} (h : 2 ≤ s.timer.reloadDelay) (hsignal : s.timer.signal = false) :
    timerTick s =
      { s with timer := { s.timer with sysCounter := s.timer.sysCounter + 1, reloadDelay := s.timer.reloadDelay - 1 } } := by
  rw [timerTick, Timer.count_of_not_signal (s.timer.signal_reload.trans hsignal), Timer.reload_of_pending h]
  rfl

/-- The last unit of the reload window, without an edge, loads TMA and makes the Timer request. -/
theorem timerTick_of_due {s : State} (h : s.timer.reloadDelay = 1) (hsignal : s.timer.signal = false) :
    timerTick s =
      State.request
        { s with timer := { s.timer with sysCounter := s.timer.sysCounter + 1, tima := s.timer.tma, reloadDelay := 0 } }
        .timer := by
  rw [timerTick, Timer.count_of_not_signal (s.timer.signal_reload.trans hsignal), Timer.reload_of_due h]
  rfl

/-! The reload window. -/

/-- `s` after the unit in which TIMA overflows and `n` more: TIMA reads 0, and the reload is `4 - n` units away. -/
def State.afterOverflow (s : State) (n : Nat) : State :=
  { s with
    timer := { s.timer with sysCounter := s.timer.sysCounter + 1 + BitVec.ofNat 16 n, tima := 0x00, reloadDelay := 4 - n } }

/-- The timer is about to overflow: TIMA is 0xFF, no reload is pending, and the signal falls in the next unit. -/
structure Timer.Overflowing (t : Timer) : Prop where
  enabled : t.tac.getLsbD 2 = true
  noReload : t.reloadDelay = 0
  full : t.tima = 0xFF
  clockSet : t.sysCounter.getLsbD (timerBit t.tac) = true
  clockFalls : (t.sysCounter + 1).getLsbD (timerBit t.tac) = false

variable {s : State}

/-- The unit in which TIMA overflows opens the window. -/
theorem Timer.Overflowing.timerTick_eq (h : s.timer.Overflowing) : timerTick s = s.afterOverflow 0 := by
  have hset : s.timer.signal = true := by rw [Timer.signal_eq, h.enabled, h.clockSet, Bool.and_true]
  have hfalls : Timer.signal { s.timer with sysCounter := s.timer.sysCounter + 1 } = false := by
    rw [Timer.signal_eq, h.clockFalls, Bool.and_false]
  rw [timerTick_of_closed h.noReload, Timer.count_of_falling hset hfalls, Timer.increment, if_pos h.full]
  simp only [State.afterOverflow, BitVec.add_zero]
  rfl

/-- The signal stays 0 through the window. -/
theorem Timer.Overflowing.signal_afterOverflow (h : s.timer.Overflowing) {n : Nat} (hn : n < 4) :
    (s.afterOverflow n).timer.signal = false := by
  have hclear := timerBit_stays_clear h.clockSet h.clockFalls (n := n) (by omega)
  rw [Timer.signal_eq]
  exact Bool.and_eq_false_imp.mpr fun _ => hclear

/-- A unit within the window counts, and TIMA stays 0. -/
theorem Timer.Overflowing.timerTick_afterOverflow (h : s.timer.Overflowing) {n : Nat} (hn : n < 3) :
    timerTick (s.afterOverflow n) = s.afterOverflow (n + 1) := by
  have hpending : 2 ≤ (s.afterOverflow n).timer.reloadDelay := show 2 ≤ 4 - n by omega
  rw [timerTick_of_pending hpending (h.signal_afterOverflow (by omega))]
  simp only [State.afterOverflow, BitVec.ofNat_add, BitVec.add_assoc, Nat.sub_sub, BitVec.ofNat_eq_ofNat]

/-- The overflow and the units up to the end of the window, by induction on their number. -/
theorem Timer.Overflowing.timerStep_eq_afterOverflow (h : s.timer.Overflowing) {n : Nat} (hn : n < 4) :
    timerStep (n + 1) s = s.afterOverflow n := by
  induction n with
  | zero => exact h.timerTick_eq
  | succ n ih => rw [timerStep_succ, ih (by omega), h.timerTick_afterOverflow (by omega)]

/-- The unit after the window loads TMA and makes the request. -/
theorem Timer.Overflowing.timerStep_five (h : s.timer.Overflowing) :
    timerStep 5 s = State.request
      { s with timer := { s.timer with sysCounter := s.timer.sysCounter + 5, tima := s.timer.tma, reloadDelay := 0 } } .timer := by
  rw [timerStep_succ, h.timerStep_eq_afterOverflow (n := 3) (by decide), timerTick_of_due rfl (h.signal_afterOverflow (by decide))]
  simp only [State.afterOverflow, BitVec.add_assoc]
  rfl

/-! The writes. -/

/-- A write to DIV clears the counter, and the signal with it. -/
theorem Timer.writeDiv_eq (t : Timer) :
    t.writeDiv = if t.signal then Timer.increment { t with sysCounter := 0 } else { t with sysCounter := 0 } := by
  rw [Timer.writeDiv, Timer.afterEdge, Timer.signal_sysCounter_zero, Bool.not_false, Bool.and_true]

/-- The signal under the three bits of a byte written to TAC. -/
theorem Timer.signal_tac_extractLsb' (t : Timer) (v : Byte) :
    Timer.signal { t with tac := v.extractLsb' 0 3 } =
      (v.getLsbD 2 && t.sysCounter.getLsbD (timerBit (v.extractLsb' 0 3))) := by
  simp [Timer.signal_eq]

/-- A write to TAC increments TIMA when the signal falls across it. -/
theorem Timer.writeTac_eq (t : Timer) (v : Byte) :
    t.writeTac v =
      if t.signal && !(v.getLsbD 2 && t.sysCounter.getLsbD (timerBit (v.extractLsb' 0 3))) then
        Timer.increment { t with tac := v.extractLsb' 0 3 }
      else { t with tac := v.extractLsb' 0 3 } := by
  rw [Timer.writeTac, Timer.afterEdge, Timer.signal_tac_extractLsb']

theorem busWrite_div (s : State) (v : Byte) : busWrite s 0xFF04 v = { s with timer := s.timer.writeDiv } := rfl

theorem busWrite_tac (s : State) (v : Byte) : busWrite s 0xFF07 v = { s with timer := s.timer.writeTac v } := rfl

end Sys2Proof.Machine

namespace Sys2Proof.Laws

open Sys2Proof.Machine

/-- Settles O50, by the state after each unit of the window: the clock bit that fell stays clear, so TIMA counts no edge in it. -/
theorem timerReloadsFourUnitsAfterOverflow : Obligations.TimerReloadsFourUnitsAfterOverflow := by
  intro s henabled hreload hfull hset hfalls
  have h : s.timer.Overflowing := ⟨henabled, hreload, hfull, hset, hfalls⟩
  refine ⟨fun n h1 h4 => ?_, ?_⟩
  · obtain ⟨m, rfl⟩ := Nat.exists_eq_add_of_le' h1
    rw [h.timerStep_eq_afterOverflow (by omega)]
    exact ⟨rfl, rfl, (Nat.add_sub_add_right 4 1 m).symm⟩
  · rw [h.timerStep_five]
    exact ⟨rfl, rfl, rfl⟩

/-- Settles O49: DIV and TAC are written under the edge rule, the counter of 0 having no signal. -/
theorem timerWritesObeyTheEdgeRule : Obligations.TimerWritesObeyTheEdgeRule := by
  intro s v
  refine ⟨?_, rfl, rfl, ?_, ⟨rfl, rfl, rfl, rfl⟩, rfl, rfl, rfl, rfl⟩
  · rw [busWrite_div, Timer.writeDiv_eq]
    rfl
  · rw [busWrite_tac, Timer.writeTac_eq]
    rfl

end Sys2Proof.Laws
end

section
/-! SUPPORT. The place of the PPU in its frame after a cycle unit, and the one unit that enters v-blank (62_ppu R420 to R422, R431,
R432). -/

namespace Sys2Proof.Machine

open Sys2Proof.Claims

/-! The places of the frame. -/

/-- The PPU is before the last unit of line 143, the unit that enters v-blank. -/
def Ppu.BeforeVBlank (p : Ppu) : Prop := p.mode = .hBlank ∧ p.dot + 1 = Config.hblankLen ∧ p.ly + 1 = 144

/-- The PPU is before the last unit of pixel-transfer, the unit that composites row `ly`. -/
def Ppu.BeforeRowEnd (p : Ppu) : Prop := p.mode = .pixelTransfer ∧ p.dot + 1 = Config.pixelTransferLen

theorem framePosition_lt {p : Ppu} (h : InFrame p) : framePosition p < 70224 := by
  unfold InFrame at h
  unfold framePosition
  cases hm : p.mode <;> simp only [hm] at h ⊢ <;> omega

/-- Line 144 is entered from the place before it alone. -/
theorem beforeVBlank_iff {p : Ppu} (h : InFrame p) : p.BeforeVBlank ↔ framePosition p + 1 = 65664 := by
  have hlen : Config.hblankLen = 204 := rfl
  unfold InFrame at h
  unfold framePosition Ppu.BeforeVBlank
  cases hm : p.mode <;> simp only [hm, hlen, reduceCtorEq, true_and, false_and, false_iff] at h ⊢ <;> bv_omega

/-- A unit takes the PPU to the next place of its frame, the last one back to the first. -/
theorem ppuTick_inFrame {s : State} (h : InFrame s.ppu) :
    InFrame (ppuTick s).ppu ∧ framePosition (ppuTick s).ppu = (framePosition s.ppu + 1) % 70224 := by
  obtain ⟨hmode, hly, hdot, -⟩ := ppuTick_position s
  obtain ⟨-, hnext⟩ := ppuAdvance_position s
  unfold InFrame framePosition at *
  rw [hmode, hly, hdot]
  cases hm : s.ppu.mode <;> simp only [hm] at h hnext ⊢
  case oamSearch => split at hnext <;> simp only [hnext] <;> omega
  case pixelTransfer => split at hnext <;> simp only [hnext] <;> omega
  case hBlank => split_ifs at hnext <;> simp only [hnext] <;> bv_omega
  case vBlank => split_ifs at hnext <;> simp only [hnext] <;> bv_omega

/-! What a unit requests, hands off and composites. -/

/-- A unit of the mode machine enters v-blank, or composites a row, or moves the PPU's place alone. -/
theorem ppuAdvance_cases (s : State) :
    (s.ppu.BeforeVBlank ∧ ¬s.ppu.BeforeRowEnd ∧
      ppuAdvance s = enterVBlank { s with ppu := { s.ppu with dot := 0, ly := s.ppu.ly + 1 } }) ∨
    (¬s.ppu.BeforeVBlank ∧ s.ppu.BeforeRowEnd ∧ ppuAdvance s = endPixelTransfer s) ∨
    (¬s.ppu.BeforeVBlank ∧ ¬s.ppu.BeforeRowEnd ∧
      ∃ mode ly dot, ppuAdvance s = { s with ppu := { s.ppu with mode := mode, ly := ly, dot := dot } }) := by
  unfold Ppu.BeforeVBlank Ppu.BeforeRowEnd ppuAdvance
  cases hmode : s.ppu.mode <;> simp only [reduceCtorEq, true_and, false_and, and_false, not_false_eq_true, false_or]
  case oamSearch => split <;> exact ⟨_, _, _, rfl⟩
  case pixelTransfer =>
    by_cases hdot : s.ppu.dot + 1 = Config.pixelTransferLen
    · exact .inl ⟨hdot, if_pos hdot⟩
    · exact .inr ⟨hdot, _, _, _, if_neg hdot⟩
  case hBlank =>
    by_cases hdot : s.ppu.dot + 1 = Config.hblankLen
    · rw [if_pos hdot]
      by_cases hly : s.ppu.ly + 1 = 144
      · exact .inl ⟨⟨hdot, hly⟩, if_pos hly⟩
      · exact .inr ⟨fun h => hly h.2, _, _, _, if_neg hly⟩
    · exact .inr ⟨fun h => hdot h.1, _, _, _, if_neg hdot⟩
  case vBlank =>
    unfold endVBlankLine
    split_ifs <;> exact ⟨_, _, _, rfl⟩

/-- The unit that enters v-blank alone requests VBlank and hands the frame off. -/
theorem ppuAdvance_irq_frame {s : State} (h : InFrame s.ppu) :
    (ppuAdvance s).irq = { s.irq with ifl := s.irq.ifl ||| if framePosition s.ppu + 1 = 65664 then 0b00001 else 0 } ∧
      (ppuAdvance s).frame = if framePosition s.ppu + 1 = 65664 then some s.ppu.framebuffer else s.frame := by
  have hentry := beforeVBlank_iff h
  have hkept : s.irq.ifl ||| 0 = s.irq.ifl := BitVec.or_zero
  obtain ⟨hpos, -, hs⟩ | ⟨hpos, -, hs⟩ | ⟨hpos, -, mode, ly, dot, hs⟩ := ppuAdvance_cases s <;>
    rw [hs] <;> rw [hentry] at hpos
  · simp only [if_pos hpos]
    exact ⟨rfl, rfl⟩
  · simp only [if_neg hpos, hkept]
    exact ⟨rfl, rfl⟩
  · simp only [if_neg hpos, hkept, and_self]

/-- The mode machine leaves the sampled STAT signal to the sampling. -/
theorem ppuAdvance_statLine (s : State) : (ppuAdvance s).ppu.statLine = s.ppu.statLine := by
  obtain ⟨-, -, hs⟩ | ⟨-, -, hs⟩ | ⟨-, -, mode, ly, dot, hs⟩ := ppuAdvance_cases s <;> rw [hs] <;> rfl

/-- The last unit of pixel-transfer composites row `ly`; no other unit changes the frame buffer. -/
theorem ppuTick_framebuffer (s : State) :
    (s.ppu.BeforeRowEnd ∧ (ppuTick s).ppu.framebuffer =
      s.ppu.framebuffer.setIfInBounds s.ppu.ly.toNat (renderRow s.ppu s.mem s.ppu.ly.toNat)) ∨
    (¬s.ppu.BeforeRowEnd ∧ (ppuTick s).ppu.framebuffer = s.ppu.framebuffer) := by
  rw [ppuTick, sampleStat_ppu]
  obtain ⟨-, hend, hs⟩ | ⟨-, hend, hs⟩ | ⟨-, hend, mode, ly, dot, hs⟩ := ppuAdvance_cases s
  · exact .inr ⟨hend, by rw [hs]; rfl⟩
  · exact .inl ⟨hend, by rw [hs]; rfl⟩
  · exact .inr ⟨hend, by rw [hs]⟩

theorem sampleStat_frame (s : State) : (sampleStat s).frame = s.frame := by simp [sampleStat]

theorem sampleStat_irq (s : State) :
    (sampleStat s).irq =
      { s.irq with ifl := s.irq.ifl ||| if s.ppu.statSignal && !s.ppu.statLine then 0b00010 else 0 } := by
  rw [sampleStat, State.requestIf_eq]
  rfl

theorem ppuTick_frame {s : State} (h : InFrame s.ppu) :
    (ppuTick s).frame = if framePosition s.ppu + 1 = 65664 then some s.ppu.framebuffer else s.frame :=
  (sampleStat_frame _).trans (ppuAdvance_irq_frame h).2

/-! A stretch of units. -/

/-- `n + 1` units reach a place if the first one does, or the `n` after it. -/
theorem exists_reached_succ_iff (place n : Nat) :
    (∃ k, 0 < k ∧ k ≤ n + 1 ∧ (place + k) % 70224 = 65664) ↔
      (place + 1) % 70224 = 65664 ∨ ∃ k, 0 < k ∧ k ≤ n ∧ ((place + 1) % 70224 + k) % 70224 = 65664 := by
  constructor
  · rintro ⟨k, hpos, hk, hplace⟩
    by_cases hfirst : k = 1
    · exact .inl (hfirst ▸ hplace)
    · exact .inr ⟨k - 1, by omega, by omega, by omega⟩
  · rintro (hplace | ⟨k, hpos, hk, hplace⟩)
    · exact ⟨1, by omega, by omega, hplace⟩
    · exact ⟨k + 1, by omega, by omega, by omega⟩

theorem ppuTicks_inFrame (n : Nat) {s : State} (h : InFrame s.ppu) :
    InFrame (ppuTicks n s).ppu ∧ framePosition (ppuTicks n s).ppu = (framePosition s.ppu + n) % 70224 := by
  induction n generalizing s with
  | zero => exact ⟨h, (Nat.mod_eq_of_lt (framePosition_lt h)).symm⟩
  | succ n ih =>
    obtain ⟨hframe, hplace⟩ := ppuTick_inFrame h
    obtain ⟨hframe', hplace'⟩ := ih hframe
    exact ⟨hframe', hplace'.trans (by rw [hplace]; omega)⟩

/-- A frame stands at the end of a stretch if it stood before it or the stretch enters line 144. -/
theorem ppuTicks_frame_isSome (n : Nat) {s : State} (h : InFrame s.ppu) :
    (ppuTicks n s).frame.isSome = true ↔
      s.frame.isSome = true ∨ ∃ k, 0 < k ∧ k ≤ n ∧ (framePosition s.ppu + k) % 70224 = 65664 := by
  induction n generalizing s with
  | zero =>
    have hnone : ¬∃ k, 0 < k ∧ k ≤ 0 ∧ (framePosition s.ppu + k) % 70224 = 65664 := fun ⟨_, hpos, hk, _⟩ => by omega
    exact (or_iff_left hnone).symm
  | succ n ih =>
    have hlt := framePosition_lt h
    obtain ⟨hframe, hplace⟩ := ppuTick_inFrame h
    have hfirst : (ppuTick s).frame.isSome = true ↔ s.frame.isSome = true ∨ (framePosition s.ppu + 1) % 70224 = 65664 := by
      rw [ppuTick_frame h]
      split <;> simp <;> omega
    rw [ppuTicks, ih hframe, hfirst, hplace, exists_reached_succ_iff, or_assoc]

end Sys2Proof.Machine

namespace Sys2Proof.Laws

open Sys2Proof.Machine Sys2Proof.Claims

/-- Settles O51, by induction on the units: each takes the PPU to the next place, and one place alone hands a frame off. -/
theorem oneFramePerFullRefresh : Obligations.OneFramePerFullRefresh := by
  intro n s hon h
  have hstep : ppuStep n s = ppuTicks n { s with frame := none } := if_pos hon
  obtain ⟨hframe, hplace⟩ := ppuTicks_inFrame n (s := { s with frame := none }) h
  have hsome := ppuTicks_frame_isSome n (s := { s with frame := none }) h
  rw [hstep]
  exact ⟨hframe, hplace, hsome.trans (or_iff_right Bool.false_ne_true)⟩

/-- Settles O52: the mode machine requests VBlank at the entry to line 144, then the sampled STAT signal LCD-STAT where it rises. -/
theorem ppuRequestsInterruptsOnTheirEvents : Obligations.PpuRequestsInterruptsOnTheirEvents := by
  refine ⟨fun s h => ?_, fun s v => ⟨rfl, rfl⟩⟩
  have hppu : (ppuTick s).ppu = { (ppuAdvance s).ppu with statLine := (ppuAdvance s).ppu.statSignal } := sampleStat_ppu _
  dsimp only
  refine ⟨by rw [hppu]; rfl, ?_, ?_⟩
  · rw [hppu, ppuTick, sampleStat_irq, (ppuAdvance_irq_frame h).1, ppuAdvance_statLine]
    simp only [decide_eq_true_eq]
    rfl
  · simp only [decide_eq_true_eq]
    exact ppuTick_frame h

end Sys2Proof.Laws
end

section
/-! SUPPORT. The frame buffer pixel by pixel: the composited row, the two bytes of a tile row, the sprites of a row and the one that
wins (62_ppu R409, R410, R430, R450 to R454). -/

namespace Sys2Proof.Machine

/-! The tile rows. -/

/-- A pixel's colour number is one bit of each of the two bytes of its tile row. -/
theorem planePixel_toNat (m : Memory) (a b : Nat) :
    (planePixel m a b).toNat = 2 * ((m.read (a + 1)).getLsbD b).toNat + ((m.read a).getLsbD b).toNat := by
  have hhi := Bool.toNat_le ((m.read (a + 1)).getLsbD b)
  have hlo := Bool.toNat_le ((m.read a).getLsbD b)
  rw [planePixel, BitVec.toNat_ofNat, bit, bit]
  omega

/-- Signed indexing from 0x9000 is unsigned indexing from 0x8800 with the tile number's halves exchanged. -/
theorem tileBase_eq (lcdc t : Byte) :
    tileBase lcdc t = if lcdc.getLsbD 4 = true then 0x8000 + 16 * t.toNat else 0x8800 + 16 * ((t.toNat + 128) % 256) := by
  have ht := t.isLt
  unfold tileBase sext8 bit
  split
  · rfl
  · split <;> omega

theorem inWindow_iff (p : Ppu) (x y : Nat) :
    inWindow p x y = true ↔ p.lcdc.getLsbD 5 = true ∧ p.wy.toNat ≤ y ∧ p.wx.toNat ≤ x + 7 := by
  simp [inWindow, bit, and_assoc]

/-- VRAM and OAM are plain storage at their own addresses. -/
theorem owner_vram_oam {a : Word} (h : 0x8000 ≤ a.toNat ∧ a.toNat < 0xA000 ∨ 0xFE00 ≤ a.toNat ∧ a.toNat < 0xFEA0) :
    owner a = .store a.toNat := by
  obtain ⟨k, hk, -⟩ | hie := owner_ram (a := a) (by omega)
  · obtain ⟨hlo, hhi, -⟩ | ⟨-, rfl⟩ := owner_store_key hk
    · omega
    · exact hk
  · have ha : a = 0xFFFF := owner_device (by rw [hie]; rfl)
    rw [ha] at h
    exact absurd h (by decide)

theorem layerPixel_toNat (lcdc : Byte) (m : Memory) (map px py : Nat) :
    let row := tileBase lcdc (m.read (map + 32 * (py / 8) + px / 8)) + 2 * (py % 8)
    (layerPixel lcdc m map px py).toNat =
      2 * ((m.read (row + 1)).getLsbD (7 - px % 8)).toNat + ((m.read row).getLsbD (7 - px % 8)).toNat :=
  planePixel_toNat m _ _

/-- The layer a pixel is on, its tile map and its place there. -/
theorem bgColour_eq (p : Ppu) (m : Memory) (x y : Nat) :
    let window := p.lcdc.getLsbD 5 = true ∧ p.wy.toNat ≤ y ∧ p.wx.toNat ≤ x + 7
    let px := if window then x + 7 - p.wx.toNat else (x + p.scx.toNat) % 256
    let py := if window then y - p.wy.toNat else (y + p.scy.toNat) % 256
    let high := if window then p.lcdc.getLsbD 6 = true else p.lcdc.getLsbD 3 = true
    bgColour p m x y =
      if p.lcdc.getLsbD 0 = true then layerPixel p.lcdc m (if high then 0x9C00 else 0x9800) px py else 0 := by
  dsimp only
  unfold bgColour bit
  cases hon : p.lcdc.getLsbD 0 with
  | false => rfl
  | true =>
    rw [if_neg (by decide), if_pos rfl]
    by_cases hwindow : p.lcdc.getLsbD 5 = true ∧ p.wy.toNat ≤ y ∧ p.wx.toNat ≤ x + 7
    · rw [if_pos ((inWindow_iff p x y).2 hwindow)]
      simp only [if_pos hwindow]
    · rw [if_neg (mt (inWindow_iff p x y).1 hwindow)]
      simp only [if_neg hwindow]

/-! The sprites. -/

/-- In 8 x 16 mode bit 0 of the tile number is ignored. -/
theorem and_0xFE_toNat (t : Byte) : (t &&& 0xFE).toNat = t.toNat / 2 * 2 := by revert t; decide

theorem Sprite.colourAt_of_not_covers {e : Sprite} {x : Nat} (hx : ¬(e.x.toNat ≤ x + 8 ∧ x < e.x.toNat)) (m : Memory)
    (h y : Nat) :
    e.colourAt m h x y = none := by
  rw [Sprite.colourAt, if_neg]
  simpa using hx

/-- A sprite shows at an `x` it covers the pixel of its tile, the row and the column flipped by its two flip bits. -/
theorem Sprite.colourAt_of_covers {e : Sprite} {x : Nat} (hx : e.x.toNat ≤ x + 8 ∧ x < e.x.toNat) (m : Memory) (h y : Nat) :
    e.colourAt m h x y =
      some (planePixel m
        (0x8000 + 16 * (if h = 16 then e.tile.toNat / 2 * 2 else e.tile.toNat) +
          2 * (if e.attr.getLsbD 6 then h - 1 - (y + 16 - e.y.toNat) else y + 16 - e.y.toNat))
        (if e.attr.getLsbD 5 then x + 8 - e.x.toNat else 7 - (x + 8 - e.x.toNat))) := by
  have hcol : 7 - (if bit e.attr 5 then 7 - (x + 8 - e.x.toNat) else x + 8 - e.x.toNat) =
      if e.attr.getLsbD 5 then x + 8 - e.x.toNat else 7 - (x + 8 - e.x.toNat) := by
    unfold bit
    split <;> omega
  have htile : (if h = 16 then e.tile &&& 0xFE else e.tile).toNat = if h = 16 then e.tile.toNat / 2 * 2 else e.tile.toNat := by
    rw [apply_ite BitVec.toNat, and_0xFE_toNat]
  rw [Sprite.colourAt, if_pos (by simpa using hx)]
  simp only [hcol, htile]
  rfl

theorem mem_opaqueAt_iff {m : Memory} {h x y : Nat} {l : List Sprite} {e : Sprite} {c : Colour} :
    (e, c) ∈ opaqueAt m h x y l ↔ e ∈ l ∧ c ≠ 0 ∧ e.colourAt m h x y = some c := by
  rw [opaqueAt, List.mem_filterMap]
  constructor
  · rintro ⟨f, hmem, hf⟩
    cases hcol : f.colourAt m h x y with
    | none => simp [hcol] at hf
    | some d =>
      by_cases hd : d = 0
      · simp [hcol, hd] at hf
      · simp only [hcol, if_neg hd, Option.some.injEq, Prod.mk.injEq] at hf
        obtain ⟨rfl, rfl⟩ := hf
        exact ⟨hmem, hd, hcol⟩
  · rintro ⟨hmem, hc, hcol⟩
    exact ⟨e, hmem, by simp only [hcol, if_neg hc]⟩

/-- The sprites that show keep their OAM order. -/
theorem map_fst_opaqueAt (m : Memory) (h x y : Nat) (l : List Sprite) :
    (opaqueAt m h x y l).map Prod.fst = l.filter fun e => decide (e.colourAt m h x y ≠ none ∧ e.colourAt m h x y ≠ some 0) := by
  rw [opaqueAt, List.map_filterMap, ← List.filterMap_eq_filter]
  congr 1
  funext e
  cases hcol : e.colourAt m h x y with
  | none => simp [Option.guard, hcol]
  | some c =>
    by_cases hc : c = 0
    · simp [Option.guard, hcol, hc]
    · have hshows : some c ≠ none ∧ some c ≠ some 0 := ⟨Option.some_ne_none c, fun h => hc (Option.some.inj h)⟩
      simp only [Option.guard, hcol, if_neg hc, decide_eq_true hshows, if_true, Option.map_some]

/-- The winner is one of the sprites. -/
theorem mem_of_leftmost {l : List (Sprite × Colour)} {w : Sprite × Colour} (h : leftmost l = some w) : w ∈ l := by
  induction l with
  | nil => exact absurd h (Option.not_mem_none w)
  | cons v l ih =>
    rw [leftmost] at h
    split at h
    case h_1 r hr =>
      split at h
      · exact List.mem_cons_of_mem _ (ih (hr.trans h))
      · exact Option.some.inj h ▸ List.mem_cons_self
    case h_2 => exact Option.some.inj h ▸ List.mem_cons_self

/-- A head that none of the rest is left of wins. -/
theorem leftmost_cons_of_le {w : Sprite × Colour} {l : List (Sprite × Colour)} (h : ∀ v ∈ l, w.1.x.toNat ≤ v.1.x.toNat) :
    leftmost (w :: l) = some w := by
  rw [leftmost]
  split
  case h_1 r hr => exact if_neg (Nat.not_lt.2 (h r (mem_of_leftmost hr)))
  case h_2 => rfl

/-- The winner of the rest wins over a head right of it. -/
theorem leftmost_cons_of_lt {w v : Sprite × Colour} {l : List (Sprite × Colour)} (hw : leftmost l = some w)
    (h : w.1.x.toNat < v.1.x.toNat) : leftmost (v :: l) = some w := by
  simp only [leftmost, hw, if_pos h]

theorem leftmost_of_getElem? {l : List (Sprite × Colour)} {i : Nat} {w : Sprite × Colour} (hi : l[i]? = some w)
    (hfirst : ∀ j v, l[j]? = some v → w.1.x.toNat < v.1.x.toNat ∨ (w.1.x = v.1.x ∧ i ≤ j)) : leftmost l = some w := by
  induction l generalizing i with
  | nil => exact absurd hi (by simp)
  | cons u l ih =>
    cases i with
    | zero =>
      obtain rfl : u = w := Option.some.inj hi
      refine leftmost_cons_of_le fun v hv => ?_
      obtain ⟨j, hj⟩ := List.mem_iff_getElem?.1 hv
      obtain hlt | ⟨heq, -⟩ := hfirst (j + 1) v hj
      · exact hlt.le
      · exact (congrArg BitVec.toNat heq).le
    | succ i =>
      have hrest : leftmost l = some w :=
        ih hi fun j v hj => (hfirst (j + 1) v hj).imp_right (And.imp_right Nat.le_of_succ_le_succ)
      obtain hlt | ⟨-, hle⟩ := hfirst 0 u rfl
      · exact leftmost_cons_of_lt hrest hlt
      · exact absurd hle (Nat.not_succ_le_zero i)

/-! The pixels of the frame buffer. -/

section
variable {p : Ppu} {m : Memory} {sel : List Sprite} {x y : Nat}

theorem pixel_of_no_winner (h : leftmost (opaqueAt m (spriteHeight p.lcdc) x y sel) = none) :
    pixel p m sel x y = if p.lcdc.getLsbD 0 then paletteColour p.bgp (bgColour p m x y) else 0 := by
  simp only [pixel, h]
  rfl

theorem pixel_of_winner {w : Sprite × Colour} (h : leftmost (opaqueAt m (spriteHeight p.lcdc) x y sel) = some w) :
    pixel p m sel x y =
      if w.1.attr.getLsbD 7 = true ∧ bgColour p m x y ≠ 0 then
        if p.lcdc.getLsbD 0 then paletteColour p.bgp (bgColour p m x y) else 0
      else paletteColour (if w.1.attr.getLsbD 4 then p.obp1 else p.obp0) w.2 := by
  simp only [pixel, h, Bool.and_eq_true, decide_eq_true_eq]
  rfl

end

/-- The last unit of pixel-transfer composites row `ly`; no other unit, and no other row, changes a pixel. -/
theorem ppuTick_getElem_framebuffer (s : State) {x y : Nat} (hx : x < 160) (hy : y < 144) :
    (ppuTick s).ppu.framebuffer[y][x] =
      if s.ppu.mode = .pixelTransfer ∧ s.ppu.dot + 1 = 172 ∧ s.ppu.ly.toNat = y then
        pixel s.ppu s.mem (selectSprites s.ppu s.mem y) x y
      else s.ppu.framebuffer[y][x] := by
  obtain ⟨⟨hmode, hdot⟩, hbuffer⟩ | ⟨hend, hbuffer⟩ := ppuTick_framebuffer s <;> simp only [hbuffer]
  · by_cases hly : s.ppu.ly.toNat = y
    · rw [if_pos ⟨hmode, hdot, hly⟩]
      simp only [hly, Vector.getElem_setIfInBounds_self, renderRow, Vector.getElem_ofFn]
    · rw [if_neg fun hrow => hly hrow.2.2]
      simp only [Vector.getElem_setIfInBounds_ne hy hly]
  · rw [if_neg fun hrow => hend ⟨hrow.1, hrow.2.1⟩]

end Sys2Proof.Machine

namespace Sys2Proof.Laws

open Sys2Proof.Machine

/-- Settles O53: the last unit of pixel-transfer composites the row `ly`, and a pixel of it goes by whether a sprite wins there. -/
theorem rowIsCompositedAtTheEndOfPixelTransfer : Obligations.RowIsCompositedAtTheEndOfPixelTransfer := by
  intro s x y hx hy
  dsimp only
  rw [ppuTick_getElem_framebuffer s hx hy]
  split
  case isTrue =>
    have hheight : spriteHeight s.ppu.lcdc = if s.ppu.lcdc.getLsbD 2 then 16 else 8 := rfl
    rw [← hheight]
    cases hwinner : leftmost (opaqueAt s.mem (spriteHeight s.ppu.lcdc) x y (selectSprites s.ppu s.mem y)) with
    | none => exact pixel_of_no_winner hwinner
    | some w => exact pixel_of_winner hwinner
  case isFalse => rfl

/-- Settles O54, by the layer the pixel is on and the two bytes of its tile row there. -/
theorem backgroundPixelReadsItsTile : Obligations.BackgroundPixelReadsItsTile := by
  intro p m x y _ _
  have h := congrArg BitVec.toNat (bgColour_eq p m x y)
  rw [apply_ite BitVec.toNat, layerPixel_toNat, tileBase_eq] at h
  exact h

/-- Settles O55: the entries and the selection as the model writes them, a sprite's pixel by whether it covers `x`, and the
winner by induction on the sprites that show. -/
theorem spritesAreSelectedInOamOrder : Obligations.SpritesAreSelectedInOamOrder := by
  refine ⟨fun m i => rfl, fun s a h => busRead_store (owner_vram_oam h), fun p m y => ?_, fun e m h x y _ _ _ => ?_,
    fun m h x y l e c => mem_opaqueAt_iff, map_fst_opaqueAt, rfl, fun l i w => leftmost_of_getElem?⟩
  · simp only [selectSprites, Sprite.onRow, Bool.decide_and]
    rfl
  · dsimp only
    by_cases hx : e.x.toNat ≤ x + 8 ∧ x < e.x.toNat
    · rw [Sprite.colourAt_of_covers hx, if_pos hx, Option.map_some, planePixel_toNat]
    · rw [Sprite.colourAt_of_not_covers hx, if_neg hx, Option.map_none]

end Sys2Proof.Laws
end

section
/-! SUPPORT. The decoder and the encoder against each other, by the cells of the primary table (30_encoding R120 to R122, R130,
R135). -/

namespace Sys2Proof

open Machine

/-- The bytes an instruction has by its cell of the primary table, from its opcode and its immediates; the byte after the prefix
stands where an 8-bit immediate does (30_encoding R121, R122). -/
def Entry.bytes (op b1 : Byte) (w : Word) : Entry → List Byte
  | .op _ => [op]
  | .imm8 _ => [op, b1]
  | .imm16 _ => [op, loByte w, hiByte w]
  | .cb => [op, b1]

/-- The instruction of a cell from its immediates, the 16-bit one as a word. -/
def Entry.instr (b1 : Byte) (w : Word) : Entry → Instr
  | .op i => i
  | .imm8 f => f b1
  | .imm16 f => f w
  | .cb => secondaryInstr b1

theorem Entry.build_eq_instr (e : Entry) (b1 b2 : Byte) : e.build b1 b2 = e.instr b1 (joinBytes b2 b1) := by
  cases e <;> rfl

/-- The bytes of a cell are the first ones of the three it was built from. -/
theorem Entry.bytes_joinBytes (e : Entry) (op b1 b2 : Byte) :
    e.bytes op b1 (joinBytes b2 b1) = [op, b1, b2].take e.length := by
  cases e
  case imm16 => rw [Entry.bytes, loByte_joinBytes, hiByte_joinBytes]; rfl
  all_goals rfl

theorem Entry.length_pos (e : Entry) : 1 ≤ e.length := by
  cases e
  case op => exact Nat.le_refl 1
  all_goals exact Nat.succ_le_succ (Nat.zero_le _)

/-- The encoder writes every cell's instruction with that cell's bytes; the cell of 0xCB holds the secondary table. -/
theorem encode_instr_primaryEntry (op b1 : Byte) (w : Word) :
    encode ((primaryEntry op).instr b1 w) = (primaryEntry op).bytes op b1 w := by
  have h : ∀ n < 256, encode ((primaryEntry (BitVec.ofNat 8 n)).instr b1 w) =
      (primaryEntry (BitVec.ofNat 8 n)).bytes (BitVec.ofNat 8 n) b1 w := by
    intro n hn
    obtain hlt | hcb | hgt := Nat.lt_trichotomy n 0xCB
    · interval_cases n <;> rfl
    · rw [hcb]
      exact (Laws.secondary_forms b1).2.2
    · interval_cases n <;> rfl
  have hop := h op.toNat op.isLt
  rwa [BitVec.ofNat_toNat, BitVec.setWidth_eq] at hop

/-- The bytes of a decoded instruction are the first ones of the bytes it was decoded from. -/
theorem encode_decodeBytes (b0 b1 b2 : Byte) : encode (decodeBytes b0 b1 b2) = [b0, b1, b2].take (instrLength b0) := by
  rw [decodeBytes, Entry.build_eq_instr, encode_instr_primaryEntry, Entry.bytes_joinBytes]
  rfl

/-- The decoder never answers the prefix byte alone: it has one byte, and an instruction that begins with it has two. -/
theorem decodeBytes_wellFormed (b0 b1 b2 : Byte) : (decodeBytes b0 b1 b2).wellFormed = true := by
  refine decide_eq_true fun hcb => ?_
  have hbytes := encode_decodeBytes b0 b1 b2
  have hlength := Laws.length_encode_decodeBytes b0 b1 b2
  rw [hcb] at hbytes hlength
  have hone : instrLength b0 = 1 := hlength.symm
  rw [hone] at hbytes
  have hb0 : 0xCB = b0 := (List.cons.inj hbytes).1
  rw [← hb0] at hone
  exact absurd hone (by decide)

/-- Two triples with the same opcode decode alike when they agree on the bytes that it calls for. -/
theorem decodeBytes_congr {b0 b1 b2 c1 c2 : Byte} (h1 : 2 ≤ instrLength b0 → b1 = c1) (h2 : 3 ≤ instrLength b0 → b2 = c2) :
    decodeBytes b0 b1 b2 = decodeBytes b0 c1 c2 := by
  unfold instrLength at h1 h2
  unfold decodeBytes
  cases he : primaryEntry b0 <;> rw [he] at h1 h2
  case op i => rfl
  case imm8 f => rw [h1 (Nat.le_refl 2)]; rfl
  case imm16 f => rw [h1 (by decide : 2 ≤ 3), h2 (Nat.le_refl 3)]
  case cb => rw [h1 (Nat.le_refl 2)]; rfl

/-- A list that begins with as many bytes as its first one calls for decodes by the total decoder. -/
theorem decode_append {bytes : List Byte} (h : bytes.length = instrLength (bytes.getD 0 0)) (rest : List Byte) :
    decode (bytes ++ rest) = .ok (decodeBytes (bytes.getD 0 0) (bytes.getD 1 0) (bytes.getD 2 0), rest) := by
  cases bytes with
  | nil => exact absurd h (by decide)
  | cons b0 tail =>
    have hlength : tail.length + 1 = instrLength b0 := h
    have henough : ¬(tail ++ rest).length + 1 < instrLength b0 := by
      rw [List.length_append]
      omega
    have htail : ∀ k, k + 2 ≤ instrLength b0 → (tail ++ rest).getD k 0 = tail.getD k 0 := fun k hk =>
      List.getD_append _ _ _ _ (by omega)
    rw [List.cons_append, decode, if_neg henough, ← hlength, List.drop_succ_cons, List.drop_left,
      decodeBytes_congr (htail 0) (htail 1)]
    rfl

/-- An instruction written as its cell's opcode and 16-bit immediate gets the word back from its two bytes. -/
theorem decodeBytes_encode_of_imm16 {i : Instr} {op : Byte} {w : Word} {f : Word → Instr}
    (hbytes : encode i = [op, loByte w, hiByte w]) (hcell : primaryEntry op = .imm16 f) :
    decodeBytes ((encode i).getD 0 0) ((encode i).getD 1 0) ((encode i).getD 2 0) = f w := by
  rw [hbytes, List.getD_cons_zero, decodeBytes, hcell]
  exact congrArg f (joinBytes_halves w)

/-- An instruction written as its cell's opcode and 8-bit immediate gets the byte back. -/
theorem decodeBytes_encode_of_imm8 {i : Instr} {op b : Byte} {f : Byte → Instr}
    (hbytes : encode i = [op, b]) (hcell : primaryEntry op = .imm8 f) :
    decodeBytes ((encode i).getD 0 0) ((encode i).getD 1 0) ((encode i).getD 2 0) = f b := by
  rw [hbytes, List.getD_cons_zero, decodeBytes, hcell]
  rfl

/-- The total decoder gives a whole instruction back from its bytes, by the instruction's row. -/
theorem decodeBytes_encode {i : Instr} (h : i.wellFormed = true) :
    decodeBytes ((encode i).getD 0 0) ((encode i).getD 1 0) ((encode i).getD 2 0) = i := by
  cases i
  case prefixCb => exact absurd h (by decide)
  case ldBcD16 w | ldIndA16Sp w | ldDeD16 w | ldHlD16 w | ldSpD16 w | jpNzA16 w | jpA16 w | callNzA16 w | jpZA16 w | callZA16 w
      | callA16 w | jpNcA16 w | callNcA16 w | jpCA16 w | callCA16 w | ldIndA16A w | ldAIndA16 w =>
    exact decodeBytes_encode_of_imm16 (w := w) rfl rfl
  case ldBD8 n | ldCD8 n | stop n | ldDD8 n | jrE8 n | ldED8 n | jrNzE8 n | ldHD8 n | jrZE8 n | ldLD8 n | jrNcE8 n | ldIndHlD8 n
      | jrCE8 n | ldAD8 n | addAD8 n | adcAD8 n | subD8 n | sbcAD8 n | ldhIndA8A n | andD8 n | addSpE8 n | xorD8 n | ldhAIndA8 n
      | orD8 n | ldHlSpE8 n | cpD8 n =>
    exact decodeBytes_encode_of_imm8 (b := n) rfl rfl
  all_goals rfl

end Sys2Proof

namespace Sys2Proof.Laws

/-- Settles O1: the total decoder undoes the encoder, so the instruction is as long as its first byte says. -/
theorem decodeOfEncodeIsTheInstruction : Obligations.DecodeOfEncodeIsTheInstruction := by
  intro i rest h
  have hdecode := decodeBytes_encode h
  have hlength := congrArg (fun j => (encode j).length) hdecode
  rw [length_encode_decodeBytes] at hlength
  rw [decode_append hlength.symm, hdecode]

/-- Settles O2, by the bytes of the cell the first byte selects. -/
theorem encodeOfDecodeIsTheBytes : Obligations.EncodeOfDecodeIsTheBytes := by
  intro b0 b1 b2
  have hlength := length_encode_decodeBytes b0 b1 b2
  refine ⟨decodeBytes_wellFormed b0 b1 b2, ?_, hlength, Entry.length_pos _, instrLength_le b0⟩
  rw [hlength]
  exact encode_decodeBytes b0 b1 b2

/-- Settles O3, by running the decoder on the words. -/
theorem wordsDecodeAsTheTablesSay : Obligations.WordsDecodeAsTheTablesSay := by
  exact ⟨rfl, rfl, rfl, rfl, rfl, rfl, rfl, rfl, rfl, rfl, rfl, rfl, rfl, rfl, rfl, rfl, rfl, rfl, rfl⟩

end Sys2Proof.Laws
end

section
/-! SUPPORT. The step as a whole: what keeps a state legal from reset on, the step that runs an instruction, and the idle steps
(60_exceptions R330, R340; 10_state R24, R34, R36). -/

namespace Sys2Proof.Laws

open Sys2Proof.Machine Sys2Proof.Safety

/-- Settles O59: F is 0xB0, the memories list nothing, and the PPU starts line 0 in mode 2. -/
theorem resetStateIsLegal : Obligations.ResetStateIsLegal where
  flagsLow := by decide
  memCanonical := by decide
  romCanonical := by decide
  memBacked := List.forall_mem_nil _
  romBacked := List.forall_mem_nil _
  ppuInBudget := ⟨by decide, by decide, by decide⟩
  ppuOff := fun hoff => absurd hoff (by decide)
  reloadWindow := Nat.zero_le _

/-- The CPU step leaves a legal state legal, in each of its cases. -/
theorem cpuStep_legal {s t : State} (h : Legal s) (hstep : cpuStep s = .next t) : Legal t := by
  have hwake : Legal (wake s) := Legal.of_eq h h.flagsLow rfl rfl rfl rfl
  have hidle : Legal (s.took 4) := Legal.of_eq h h.flagsLow rfl rfl rfl rfl
  obtain ⟨-, hnext⟩ | ⟨-, -, -, hnext⟩ | ⟨k, -, -, -, hnext⟩ | ⟨-, -, -, hnext⟩ := cpuStep_cases s <;> rw [hnext] at hstep
  · cases hstep
    exact hidle
  · cases hstep
    exact hidle
  · cases hstep
    exact dispatch_legal hwake k
  · exact runInstr_legal hwake hstep

/-- Settles O60: the joypad change, the CPU step and the devices each keep a legal state legal. -/
theorem everyStepKeepsTheStateLegal : Obligations.EveryStepKeepsTheStateLegal := by
  intro s t h hstep
  obtain ⟨u, hu⟩ := cpuStep_next (takeInput s)
  rw [step_eq hu] at hstep
  cases hstep
  exact advanceDevices_legal (cpuStep_legal (takeInput_legal h) hu)

/-- Settles O4: the CPU step is the decoded instruction's meaning, and the devices follow by its cycles. -/
theorem stepRunsTheDecodedInstruction : Obligations.StepRunsTheDecodedInstruction := by
  intro s i rest u hs hh hi hdecode
  rw [step, systemStep, cpuStep_eq_runInstr hs hh hi, runInstr_of_decode (s := wake u) hdecode]
  rfl

/-- Settles O6: an idle CPU step costs 4 cycles, by which the devices advance. -/
theorem idleStepsPassFourCycles : Obligations.IdleStepsPassFourCycles := by
  intro s u h
  rw [step_eq (cpuStep_eq_took h), advanceDevices_took]
  rfl

/-- Settles O36: the prefix byte is the instruction its second byte selects, one byte further. -/
theorem prefixRunsTheSecondaryInstruction : Obligations.PrefixRunsTheSecondaryInstruction := by
  intro s
  obtain ⟨t, ht, -⟩ := exec_effect .prefixCb s
  exact ⟨exec_prefixCb s, t, ht⟩

end Sys2Proof.Laws
end

section
/-! SUPPORT. The operands read back after a write, a byte or a word at a time (30_encoding R124 to R126; 10_state R21, R24). -/

namespace Sys2Proof.Machine

/-- F's mask on the low half of a word. -/
theorem joinBytes_and_0xF0 (w : Word) : joinBytes (hiByte w) (loByte w &&& 0xF0#8) = w &&& 0xFFF0#16 := by
  have hmask : 0xFFF0#16 = joinBytes (BitVec.allOnes 8) 0xF0#8 := rfl
  have hand := BitVec.and_append (x₁ := hiByte w) (x₂ := BitVec.allOnes 8) (y₁ := loByte w) (y₂ := 0xF0#8)
  rw [BitVec.and_allOnes] at hand
  conv_rhs => rw [← joinBytes_halves w, hmask]
  exact hand.symm

variable (s : State)

theorem readR8_writeR8 {r q : R8} (hr : r ≠ .indHl) (hq : q ≠ .indHl) (v : Byte) :
    readR8 (writeR8 s r v) q = if q = r then v else readR8 s q := by
  cases r
  case indHl => exact absurd rfl hr
  all_goals
    cases q
    case indHl => exact absurd rfl hq
    all_goals rfl

/-- A write of a register changes the registers alone, and none of F, SP, PC and the two control bits. -/
theorem writeR8_eq_cpu {r : R8} (hr : r ≠ .indHl) (v : Byte) :
    ∃ c : Cpu, writeR8 s r v = { s with cpu := c } ∧ c.f = s.cpu.f ∧ c.sp = s.cpu.sp ∧ c.pc = s.cpu.pc ∧
      c.halted = s.cpu.halted ∧ c.stopped = s.cpu.stopped := by
  cases r
  case indHl => exact absurd rfl hr
  all_goals exact ⟨_, rfl, rfl, rfl, rfl, rfl, rfl⟩

/-- A pair read back is its two bytes joined again; the pairs share no register. -/
theorem readR16_writeR16 (r q : R16) (w : Word) :
    readR16 (writeR16 s r w) q = if q = r then w else readR16 s q := by
  cases r <;> cases q <;> simp [readR16, writeR16, State.bc, State.de, State.hl]

/-- A pair of the stack read back is its two bytes joined again, AF's low one through F's mask. -/
theorem readStk_writeStk (r q : R16Stk) (w : Word) :
    readStk (writeStk s r w) q = if q = r then (if r = .af then w &&& 0xFFF0 else w) else readStk s q := by
  cases r <;> cases q <;>
    simp [readStk, writeStk, State.bc, State.de, State.hl, State.af, joinBytes_and_0xF0]

end Sys2Proof.Machine

namespace Sys2Proof.Laws

open Sys2Proof.Machine

/-- Settles O13: the tables name their registers outright, and a read after a write is by the pair's two bytes. -/
theorem operandsAreTheirRegisters : Obligations.OperandsAreTheirRegisters := by
  intro s v w hi lo
  exact ⟨⟨rfl, rfl, rfl, rfl, rfl, rfl, rfl, rfl⟩, ⟨rfl, rfl, rfl, rfl, rfl, rfl, rfl, rfl⟩, ⟨rfl, rfl, rfl, rfl⟩,
    ⟨rfl, rfl, rfl, rfl⟩, ⟨rfl, rfl, rfl, rfl⟩, ⟨rfl, rfl, rfl, rfl⟩, ⟨rfl, rfl, rfl, rfl⟩,
    fun _ _ hr hq => readR8_writeR8 s hr hq v, fun _ hr => writeR8_eq_cpu s hr v, fun r q => readR16_writeR16 s r q w,
    fun r q => readStk_writeStk s r q w⟩

end Sys2Proof.Laws
end

section
/-! SUPPORT. The switch of the LCD as the statements write it, and a word pushed onto plain storage and popped again (62_ppu R401,
R433; 45_control R285, R287). -/

namespace Sys2Proof.Machine

/-- A write to LCDC by its bit 7 before and after. -/
theorem Ppu.writeLcdc_eq (p : Ppu) (v : Byte) :
    p.writeLcdc v =
      if p.lcdc.getLsbD 7 = true ∧ v.getLsbD 7 = false then
        { p with lcdc := v, ly := 0, dot := 0, mode := .hBlank, statLine := false }
      else if p.lcdc.getLsbD 7 = false ∧ v.getLsbD 7 = true then { p with lcdc := v, mode := .oamSearch, dot := 0 }
      else { p with lcdc := v } := by
  simp only [Ppu.writeLcdc, bit, Bool.and_eq_true, Bool.not_eq_true']

/-- The two addresses of a pushed word are stored at different addresses: they are neighbours, and the mirror is 0x2000 away. -/
theorem stack_keys_ne {a : Word} {k1 k2 : Nat} (h1 : owner (a - 1) = .store k1) (h2 : owner (a - 2) = .store k2) : k1 ≠ k2 := by
  have hk1 := owner_store_key h1
  have hk2 := owner_store_key h2
  have hnext : (a - 1).toNat = (a - 2).toNat + 1 ∨ (a - 1).toNat = 0 ∧ (a - 2).toNat = 65535 := by bv_omega
  omega

variable {s : State} {k1 k2 : Nat}

/-- A push onto plain storage changes SP and the two bytes. -/
theorem pushed_of_store (h1 : owner (s.cpu.sp - 1) = .store k1) (h2 : owner (s.cpu.sp - 2) = .store k2) (v : Word) :
    Claims.pushed s v =
      { s with
        cpu := { s.cpu with sp := s.cpu.sp - 2 }
        mem := (s.mem.write k1 (hiByte v)).write k2 (loByte v) } := by
  rw [Claims.pushed, busWrite_store h1, busWrite_store h2]
  rfl

/-- The word pushed onto plain storage is the word popped. -/
theorem topWord_pushed (hm : s.mem.wf) (h1 : owner (s.cpu.sp - 1) = .store k1) (h2 : owner (s.cpu.sp - 2) = .store k2)
    (v : Word) : topWord (Claims.pushed s v) = v := by
  have hne := stack_keys_ne h1 h2
  have hwf := Memory.write_wf _ hm k1 (hiByte v)
  have hsp : s.cpu.sp - 2 + 1 = s.cpu.sp - 1 := by bv_omega
  rw [pushed_of_store h1 h2, topWord, hsp, busRead_store h1, busRead_store h2, Memory.read_write _ hwf, if_neg hne,
    Memory.read_write _ hm, if_pos rfl, Memory.read_write _ hwf, if_pos rfl, joinBytes_halves]

/-- A return straight after a call whose stack bytes are plain storage leaves those two bytes and the cycles alone changed. -/
theorem ret_after_call (hm : s.mem.wf) (h1 : owner (s.cpu.sp - 1) = .store k1) (h2 : owner (s.cpu.sp - 2) = .store k2)
    (w : Word) (n : Nat) :
    ret { Claims.pushed s s.cpu.pc with cpu := { s.cpu with sp := s.cpu.sp - 2, pc := w }, cycles := n } =
      .next { s with mem := (s.mem.write k1 (hiByte s.cpu.pc)).write k2 (loByte s.cpu.pc), cycles := 16 } := by
  have htop : topWord { Claims.pushed s s.cpu.pc with cpu := { s.cpu with sp := s.cpu.sp - 2, pc := w }, cycles := n } =
      s.cpu.pc := topWord_pushed hm h1 h2 s.cpu.pc
  have hsp : s.cpu.sp - 2 + 2 = s.cpu.sp := by bv_omega
  rw [ret, returnToPopped, htop, dropWord, hsp, pushed_of_store h1 h2]
  rfl

end Sys2Proof.Machine

namespace Sys2Proof.Laws

open Sys2Proof.Machine Sys2Proof.Claims

/-- Settles O56: the write to LCDC by its bit 7, and the PPU's step with that bit clear. -/
theorem lcdSwitchesOffAndOn : Obligations.LcdSwitchesOffAndOn := by
  intro s v n
  refine ⟨?_, fun hoff => ?_⟩
  · rw [← Ppu.writeLcdc_eq]
    rfl
  · have hoff' : ¬bit s.ppu.lcdc 7 = true := Bool.not_eq_true _ ▸ hoff
    exact if_neg hoff'

/-- Settles O34: the word popped is the one pushed, and SP is back where it was. -/
theorem returnUndoesCall : Obligations.ReturnUndoesCall := by
  intro s w k1 k2 hm h1 h2
  refine ⟨_, _, exec_of_shapeOf_callTo (i := .callA16 w) rfl s, (exec_shape .ret _).trans (ret_after_call hm h1 h2 w 24), rfl,
    fun a ha1 ha2 => ?_⟩
  rw [Memory.read_write _ (Memory.write_wf _ hm _ _), if_neg ha2, Memory.read_write _ hm, if_neg ha1]

end Sys2Proof.Laws
end

section
/-! SUPPORT. DAA on the sum and the difference of two packed decimal bytes (42_alu8 R201, R203, R213). -/

namespace Sys2Proof.Machine

open Sys2Proof.Claims

/-- A number below 100 by its two digits, and the value of its packed byte by them. -/
theorem exists_digits {n : Nat} (h : n < 100) :
    ∃ x y, x ≤ 9 ∧ y ≤ 9 ∧ n = 10 * x + y ∧ (packed n).toNat = 16 * x + y := by
  refine ⟨n / 10, n % 10, by omega, by omega, by omega, ?_⟩
  rw [packed, BitVec.toNat_ofNat]
  omega

/-- The sum of two packed bytes passes 0x99, with its carry, exactly when the sum of the numbers passes 99. -/
theorem packed_sum_exceeds_iff {a b c d : Nat} (ha : a ≤ 9) (hb : b ≤ 9) (hc : c ≤ 9) (hd : d ≤ 9) :
    16 * a + b + (16 * c + d) > 255 ∨ (16 * a + b + (16 * c + d)) % 256 > 0x99 ↔ 10 * a + b + (10 * c + d) ≥ 100 := by
  obtain htens | htens | htens : a + c ≤ 8 ∨ a + c = 9 ∨ 10 ≤ a + c := by omega
  · omega
  · omega
  · omega

/-- Packed bytes are ordered as their numbers. -/
theorem packed_lt_iff {a b c d : Nat} (hb : b ≤ 9) (hd : d ≤ 9) : 16 * a + b < 16 * c + d ↔ 10 * a + b < 10 * c + d := by
  omega

section
variable {a b c d x y k r : Nat} (ha : a ≤ 9) (hb : b ≤ 9) (hc : c ≤ 9) (hd : d ≤ 9) (hx : x ≤ 9) (hy : y ≤ 9)
include ha hb hc hd hx hy

/-- The sum of two packed bytes, adjusted by 6 for a low digit above 9 and by 0x60 for a high one, has the sum's digits. -/
theorem adjusted_sum (hsum : 10 * a + b + (10 * c + d) = 100 * k + (10 * x + y)) (hr : r = (16 * a + b + (16 * c + d)) % 256) :
    (r + ((if b + d > 15 ∨ r % 16 > 9 then 0x06 else 0x00) +
      (if 16 * a + b + (16 * c + d) > 255 ∨ r > 0x99 then 0x60 else 0x00))) % 256 = 16 * x + y := by
  have hlow : b + d = y ∨ b + d = y + 10 := by omega
  split_ifs <;> omega

/-- The difference of two packed bytes, adjusted by 6 for a borrow of the low digit and by 0x60 for one of the high digit, has the
difference's digits. -/
theorem adjusted_difference (hdiff : 10 * a + b + 100 - (10 * c + d) = 100 * k + (10 * x + y))
    (hr : r = (16 * a + b + 512 - (16 * c + d)) % 256) :
    (r + 512 - ((if b < d then 0x06 else 0x00) + (if 16 * a + b < 16 * c + d then 0x60 else 0x00))) % 256 = 16 * x + y := by
  have hlow : b = y + d ∨ b + 10 = y + d := by omega
  split_ifs <;> omega

end

/-- The difference SUB leaves in A. -/
theorem subFlags_fst_toNat (a v : Byte) (cin : Bool) :
    (subFlags a v cin).1.toNat = (a.toNat + 512 - v.toNat - cin.toNat) % 256 := by
  have ha := a.isLt
  have hv := v.isLt
  have hcin := cin.toNat_le
  simp only [subFlags, u8, BitVec.toNat_ofInt]
  omega

/-- DAA on what an ALU operation leaves in A and the flags. -/
def daaAfter (x : Byte × FlagBits) : Byte × FlagBits := daaFlags x.1 x.2.n x.2.h x.2.c

variable {p q : Nat}

/-- DAA after ADD: the half-carry and the carry of the sum, and the tests of A itself, call for the adjustment. -/
theorem daaAfter_addFlags (hp : p < 100) (hq : q < 100) :
    (daaAfter (addFlags (packed p) (packed q) false)).1 = packed ((p + q) % 100) ∧
      ((daaAfter (addFlags (packed p) (packed q) false)).2.c = true ↔ p + q ≥ 100) := by
  obtain ⟨a, b, ha, hb, hpdigits, hppacked⟩ := exists_digits hp
  obtain ⟨c, d, hc, hd, hqdigits, hqpacked⟩ := exists_digits hq
  obtain ⟨x, y, hx, hy, hrdigits, hrpacked⟩ := exists_digits (Nat.mod_lt (p + q) (by decide : 0 < 100))
  have hdigits : 10 * a + b + (10 * c + d) = 100 * ((p + q) / 100) + (10 * x + y) := by
    rw [← hpdigits, ← hqdigits, ← hrdigits, Nat.div_add_mod]
  have hsum := congrArg BitVec.toNat (addFlags_fst (packed p) (packed q) false)
  have hn : (addFlags (packed p) (packed q) false).2.n = false := rfl
  have hhalf : (addFlags (packed p) (packed q) false).2.h = true ↔ (16 * a + b) % 16 + (16 * c + d) % 16 > 15 := by
    rw [← hppacked, ← hqpacked]
    exact decide_eq_true_iff
  have hcarry : (addFlags (packed p) (packed q) false).2.c = true ↔ 16 * a + b + (16 * c + d) > 255 := by
    rw [← hppacked, ← hqpacked]
    exact decide_eq_true_iff
  have hmod : ∀ u v, v ≤ 9 → (16 * u + v) % 16 = v := by omega
  rw [hmod a b hb, hmod c d hd] at hhalf
  rw [BitVec.toNat_ofNat, hppacked, hqpacked, Bool.toNat_false, Nat.add_zero] at hsum
  have hadjusted := adjusted_sum ha hb hc hd hx hy hdigits hsum
  rw [daaAfter, daaFlags_fst, daaFlags_snd, hn, decide_eq_true_iff, if_neg Bool.false_ne_true]
  refine ⟨BitVec.eq_of_toNat_eq ?_, ?_⟩
  · rw [BitVec.toNat_ofNat, hrpacked, ← hadjusted]
    simp only [daaAdjustment, hhalf, hcarry, Bool.false_eq_true, not_false_eq_true, true_and]
  · simp only [hsum, hcarry, Bool.false_eq_true, not_false_eq_true, true_and]
    rw [hpdigits, hqdigits, packed_sum_exceeds_iff ha hb hc hd]

/-- DAA after SUB: the half-borrow and the borrow of the difference alone call for the adjustment. -/
theorem daaAfter_subFlags (hp : p < 100) (hq : q < 100) :
    (daaAfter (subFlags (packed p) (packed q) false)).1 = packed ((p + 100 - q) % 100) ∧
      ((daaAfter (subFlags (packed p) (packed q) false)).2.c = true ↔ p < q) := by
  obtain ⟨a, b, ha, hb, hpdigits, hppacked⟩ := exists_digits hp
  obtain ⟨c, d, hc, hd, hqdigits, hqpacked⟩ := exists_digits hq
  obtain ⟨x, y, hx, hy, hrdigits, hrpacked⟩ := exists_digits (Nat.mod_lt (p + 100 - q) (by decide : 0 < 100))
  have hdigits : 10 * a + b + 100 - (10 * c + d) = 100 * ((p + 100 - q) / 100) + (10 * x + y) := by
    rw [← hpdigits, ← hqdigits, ← hrdigits, Nat.div_add_mod]
  have hdiff := subFlags_fst_toNat (packed p) (packed q) false
  have hn : (subFlags (packed p) (packed q) false).2.n = true := rfl
  have hhalf : (subFlags (packed p) (packed q) false).2.h = true ↔ (16 * a + b) % 16 < (16 * c + d) % 16 := by
    rw [← hppacked, ← hqpacked]
    exact decide_eq_true_iff
  have hborrow : (subFlags (packed p) (packed q) false).2.c = true ↔ 16 * a + b < 16 * c + d := by
    rw [← hppacked, ← hqpacked]
    exact decide_eq_true_iff
  have hmod : ∀ u v, v ≤ 9 → (16 * u + v) % 16 = v := by omega
  rw [hmod a b hb, hmod c d hd] at hhalf
  rw [hppacked, hqpacked, Bool.toNat_false, Nat.sub_zero] at hdiff
  have hadjusted := adjusted_difference ha hb hc hd hx hy hdigits hdiff
  rw [daaAfter, daaFlags_fst, daaFlags_snd, hn, decide_eq_true_iff, if_pos rfl]
  refine ⟨BitVec.eq_of_toNat_eq ?_, ?_⟩
  · rw [BitVec.toNat_ofNat, hrpacked, ← hadjusted]
    simp only [daaAdjustment, hhalf, hborrow, not_true_eq_false, false_and, or_false]
  · simp only [hborrow, not_true_eq_false, false_and, or_false]
    rw [hpdigits, hqdigits, packed_lt_iff hb hd]

end Sys2Proof.Machine

namespace Sys2Proof.Laws

open Sys2Proof.Machine Sys2Proof.Claims

/-- What DAA answers straight after an ALU operation: it reads the flags that the operation packed into F. -/
theorem exec_daa_of_alu {x : Byte × FlagBits} {t : State} (ha : t.cpu.a = x.1) (hf : t.cpu.f = x.2.pack) :
    exec .daa t = .next (((t.withFlags (daaAfter x).2).withA (daaAfter x).1).took 4) := by
  have hn : t.flagN = x.2.n := by rw [State.flagN, hf, bit, x.2.pack_getLsbD_n]
  have hh : t.flagH = x.2.h := by rw [State.flagH, hf, bit, x.2.pack_getLsbD_h]
  have hc : t.flagC = x.2.c := by rw [State.flagC, hf, bit, x.2.pack_getLsbD_c]
  refine (exec_shape .daa t).trans ((adjustA_eq t).trans ?_)
  rw [ha, hn, hh, hc, daaAfter]

/-- An ALU operation on A and DAA straight after it. -/
theorem exec_alu_daa (x : AluForm) (op : AluOp) (s : State) :
    ∃ t u, exec (x.instr op) s = .next t ∧ exec .daa t = .next u ∧
      u.cpu.a = (daaAfter (alu op s.cpu.a (x.source s) s.flagC)).1 ∧
      u.cpu.f = (daaAfter (alu op s.cpu.a (x.source s) s.flagC)).2.pack :=
  ⟨_, _, exec_of_alu rfl, exec_daa_of_alu rfl rfl, rfl, rfl⟩

/-- Settles O25: DAA after ADD is the decimal sum, after SUB the decimal difference. -/
theorem decimalAdjustGivesDecimalArithmetic : Obligations.DecimalAdjustGivesDecimalArithmetic := by
  intro p q s hp hq ha
  obtain ⟨hsum, hcarry⟩ := daaAfter_addFlags hp hq
  obtain ⟨hdiff, hborrow⟩ := daaAfter_subFlags hp hq
  rw [← ha] at hsum hcarry hdiff hborrow
  obtain ⟨t, u, ht, hu, hua, huf⟩ := exec_alu_daa (.imm (packed q)) .add s
  obtain ⟨t', u', ht', hu', hua', huf'⟩ := exec_alu_daa (.imm (packed q)) .sub s
  refine ⟨⟨t, u, ht, hu, hua.trans hsum, ?_⟩, t', u', ht', hu', hua'.trans hdiff, ?_⟩
  · rw [huf, FlagBits.pack_getLsbD_c, ← hcarry]
    rfl
  · rw [huf', FlagBits.pack_getLsbD_c, ← hborrow]
    rfl

end Sys2Proof.Laws
end

section
/-! SUPPORT. The timer over any number of cycle units: its counter, and TIMA by the multiples of the period that the counter passes
(61_timer R374, R378). -/

namespace Sys2Proof.Machine

open Sys2Proof.Claims

/-! The registers that a cycle unit leaves alone, and the counter. -/

@[simp] theorem Timer.reload_sysCounter (t : Timer) : t.reload.1.sysCounter = t.sysCounter := by
  unfold Timer.reload
  split
  · rfl
  · split <;> rfl
@[simp] theorem Timer.reload_tac (t : Timer) : t.reload.1.tac = t.tac := by
  unfold Timer.reload
  split
  · rfl
  · split <;> rfl
@[simp] theorem Timer.reload_tma (t : Timer) : t.reload.1.tma = t.tma := by
  unfold Timer.reload
  split
  · rfl
  · split <;> rfl
@[simp] theorem Timer.count_sysCounter (t : Timer) : t.count.sysCounter = t.sysCounter + 1 := Timer.afterEdge_sysCounter _ _
@[simp] theorem Timer.count_tac (t : Timer) : t.count.tac = t.tac := Timer.afterEdge_tac _ _
@[simp] theorem Timer.count_tma (t : Timer) : t.count.tma = t.tma := Timer.afterEdge_tma _ _

/-- A counter past `n + 1` units is one past `n` units and one more. -/
theorem counter_succ (c n : Nat) : BitVec.ofNat 16 (c + (n + 1)) = BitVec.ofNat 16 (c + n) + 1 := by
  rw [← Nat.add_assoc]
  exact BitVec.ofNat_add _ 1

theorem counter_zero (c : Word) : BitVec.ofNat 16 (c.toNat + 0) = c := by
  rw [Nat.add_zero, BitVec.ofNat_toNat, BitVec.setWidth_eq]

/-- Whatever TIMA and the reload window do, the counter advances by the units, and TAC and TMA stay. -/
theorem timerStep_counter (n : Nat) (s : State) :
    (timerStep n s).timer.sysCounter = BitVec.ofNat 16 (s.timer.sysCounter.toNat + n) ∧
      (timerStep n s).timer.tac = s.timer.tac ∧ (timerStep n s).timer.tma = s.timer.tma := by
  induction n with
  | zero => exact ⟨(counter_zero _).symm, rfl, rfl⟩
  | succ n ih =>
    obtain ⟨hcounter, htac, htma⟩ := ih
    rw [timerStep_succ, timerTick_timer, counter_succ, ← hcounter, ← htac, ← htma]
    simp

/-- DIV is the counter by 256. -/
theorem extractLsb'_ofNat_high (m : Nat) : (BitVec.ofNat 16 m).extractLsb' 8 8 = BitVec.ofNat 8 (m / 256) := by
  apply BitVec.eq_of_toNat_eq
  rw [BitVec.extractLsb'_toNat, BitVec.toNat_ofNat, BitVec.toNat_ofNat, Nat.shiftRight_eq_div_pow]
  omega

/-- While no reload is pending, the units are the counter's advances alone. -/
theorem timerStep_of_closed {s : State} {f : Nat → Timer} (hstart : f 0 = s.timer) (n : Nat)
    (hclosed : ∀ m, (f m).reloadDelay = 0) (hcount : ∀ m < n, (f m).count = f (m + 1)) :
    timerStep n s = { s with timer := f n } := by
  induction n with
  | zero => rw [hstart]; rfl
  | succ n ih =>
    rw [timerStep_succ, ih fun m hm => hcount m (by omega), timerTick_of_closed (s := { s with timer := f n }) (hclosed n)]
    exact congrArg (fun t : Timer => { s with timer := t }) (hcount n (by omega))

/-- A timer with the counter and TIMA further. -/
def Timer.past (t : Timer) (units counts : Nat) : Timer :=
  { t with
    sysCounter := BitVec.ofNat 16 (t.sysCounter.toNat + units)
    tima := BitVec.ofNat 8 (t.tima.toNat + counts) }

theorem Timer.past_zero (t : Timer) : t.past 0 0 = t := by
  simp [Timer.past]

/-- A disabled timer counts no edge. -/
theorem Timer.count_past_of_disabled {t : Timer} (h : t.tac.getLsbD 2 = false) (n : Nat) :
    (t.past n 0).count = t.past (n + 1) 0 := by
  have hsignal : (t.past n 0).signal = false := by
    rw [Timer.signal_eq, Timer.past, h, Bool.false_and]
  rw [Timer.count_of_not_signal hsignal, Timer.past, Timer.past, counter_succ]

/-! TIMA by the period. -/

/-- The period is twice the value of the bit that clocks TIMA. -/
theorem timerPeriod_eq (t : Timer) : timerPeriod t = 2 * 2 ^ timerBit t.tac := by
  unfold timerPeriod timerBit
  generalize (t.tac.extractLsb' 0 2).toNat = select
  match select with
  | 0 => rfl
  | 1 => rfl
  | 2 => rfl
  | _ + 3 => rfl

/-- The clock bit falls in the unit that takes the counter to a multiple of the period. -/
theorem timerBit_falls_iff (t : Timer) (m : Nat) :
    ((BitVec.ofNat 16 m).getLsbD (timerBit t.tac) && !(BitVec.ofNat 16 m + 1).getLsbD (timerBit t.tac)) = true ↔
      timerPeriod t ∣ m + 1 := by
  rw [Bool.and_eq_true, Bool.not_eq_true', ← Bool.not_eq_false, getLsbD_eq_false_iff, getLsbD_eq_false_iff, timerPeriod_eq,
    Nat.dvd_iff_mod_eq_zero]
  simp only [BitVec.ofNat_eq_ofNat, BitVec.toNat_add, BitVec.toNat_ofNat]
  obtain h | h | h | h := timerBit_cases t.tac <;> rw [h] <;> omega

/-- The multiples of the period that the counter passes in `n` units. -/
def Timer.counts (t : Timer) (n : Nat) : Nat :=
  (t.sysCounter.toNat + n) / timerPeriod t - t.sysCounter.toNat / timerPeriod t

theorem Timer.counts_succ (t : Timer) (n : Nat) :
    t.counts (n + 1) = t.counts n + if timerPeriod t ∣ t.sysCounter.toNat + n + 1 then 1 else 0 := by
  have hle : t.sysCounter.toNat / timerPeriod t ≤ (t.sysCounter.toNat + n) / timerPeriod t :=
    Nat.div_le_div_right (Nat.le_add_right _ _)
  rw [Timer.counts, ← Nat.add_assoc, Nat.succ_div, Timer.counts]
  omega

/-- An enabled timer counts the unit that takes the counter to a multiple of the period, short of overflow. -/
theorem Timer.count_past_of_enabled {t : Timer} (h : t.tac.getLsbD 2 = true) {n : Nat}
    (hshort : t.tima.toNat + t.counts (n + 1) ≤ 255) : (t.past n (t.counts n)).count = t.past (n + 1) (t.counts (n + 1)) := by
  have hsucc := t.counts_succ n
  have hfalls := timerBit_falls_iff t (t.sysCounter.toNat + n)
  rw [Timer.count, Timer.afterEdge, Timer.signal_eq, Timer.signal_eq]
  simp only [Timer.past, h, Bool.true_and, hfalls]
  split
  case isTrue hdvd =>
    rw [if_pos hdvd] at hsucc
    have hne : ¬BitVec.ofNat 8 (t.tima.toNat + t.counts n) = 0xFF := by bv_omega
    have htima : BitVec.ofNat 8 (t.tima.toNat + t.counts n + 1) = BitVec.ofNat 8 (t.tima.toNat + t.counts n) + 1 :=
      BitVec.ofNat_add _ 1
    rw [Timer.increment, if_neg hne, hsucc, counter_succ, ← Nat.add_assoc, htima]
  case isFalse hdvd =>
    rw [if_neg hdvd] at hsucc
    rw [hsucc, counter_succ, Nat.add_zero]

end Sys2Proof.Machine

namespace Sys2Proof.Laws

open Sys2Proof.Machine Sys2Proof.Claims

/-- Settles O48, by the timer after each number of units: the counter always advances, and TIMA counts the multiples of the period
that it passes. -/
theorem timerCountsAtItsRate : Obligations.TimerCountsAtItsRate := by
  intro n s t c k
  obtain ⟨hcounter, htac, htma⟩ := timerStep_counter n s
  refine ⟨⟨hcounter, ?_, htac, htma⟩, fun hreload hdisabled => ?_, fun hreload henabled hshort => ?_⟩
  · exact (congrArg (·.extractLsb' 8 8) hcounter).trans (extractLsb'_ofNat_high _)
  · have hstep : t = { s with timer := s.timer.past n 0 } :=
      timerStep_of_closed (f := fun m => s.timer.past m 0) s.timer.past_zero n (fun _ => hreload)
        fun m _ => Timer.count_past_of_disabled hdisabled m
    rw [hstep]
    exact ⟨by rw [Timer.past, Nat.add_zero, BitVec.ofNat_toNat, BitVec.setWidth_eq], rfl⟩
  · have hmono : ∀ m < n, s.timer.counts (m + 1) ≤ k := fun m hm =>
      Nat.sub_le_sub_right (Nat.div_le_div_right (by omega)) _
    have hstep : t = { s with timer := s.timer.past n k } :=
      timerStep_of_closed (f := fun m => s.timer.past m (s.timer.counts m))
        (by rw [Timer.counts, Nat.add_zero, Nat.sub_self, Timer.past_zero]) n (fun _ => hreload)
        fun m hm => Timer.count_past_of_enabled henabled (by have := hmono m hm; omega)
    rw [hstep]
    exact ⟨by rw [Timer.past, BitVec.toNat_ofNat]; omega, rfl⟩

end Sys2Proof.Laws
end

section
/-! SUPPORT. A byte write seen from every address: the device registers by their owners, and plain storage by its keys (20_memory R60
to R70, R90, R103). -/

namespace Sys2Proof.Machine

open Sys2Proof.Claims

/-! The device registers. -/

/-- Whether a write to a device register of the first owner may change the reading of the second: its own, or one of those that
61_timer R377 and 62_ppu R402, R433 name. -/
def Owner.affects : Owner → Owner → Bool
  | .div, .tima | .tac, .tima | .lcdc, .stat | .lcdc, .ly | .ly, .stat | .lyc, .stat => true
  | o, o' => o = o'

/-- The reading of a device register, by its owner. -/
def readRegister (s : State) : Owner → Byte
  | .p1 => s.joypad.p1Byte
  | .div => s.timer.sysCounter.extractLsb' 8 8
  | .tima => s.timer.tima
  | .tma => s.timer.tma
  | .tac => 0xF8 ||| s.timer.tac.setWidth 8
  | .ifl => 0xE0 ||| s.irq.ifl.setWidth 8
  | .lcdc => s.ppu.lcdc
  | .stat => s.ppu.statByte
  | .scy => s.ppu.scy
  | .scx => s.ppu.scx
  | .ly => s.ppu.ly
  | .lyc => s.ppu.lyc
  | .dma => s.dma
  | .bgp => s.ppu.bgp
  | .obp0 => s.ppu.obp0
  | .obp1 => s.ppu.obp1
  | .wy => s.ppu.wy
  | .wx => s.ppu.wx
  | .ie => s.irq.ie
  | .cartRom | .cartRam | .store _ | .unusable => 0

/-- A read of a device register is its owner's reading. -/
theorem busRead_device {s : State} {a w : Word} (h : (owner a).deviceAddr = some w) : busRead s a = readRegister s (owner a) := by
  unfold busRead
  cases ho : owner a
  case cartRom | cartRam | store | unusable => rw [ho] at h; cases h
  all_goals rfl

/-- A write leaves the registers that its owner does not affect. -/
theorem readRegister_busWrite {s : State} {w : Word} {o : Owner} (h : (owner w).affects o = false) (v : Byte) :
    readRegister (busWrite s w v) o = readRegister s o := by
  unfold busWrite
  split
  case h_1 | h_2 | h_4 => rfl
  case h_17 ho =>
    rw [ho] at h
    rw [oamDma_mem]
    cases o <;> simp [Owner.affects, readRegister] at h ⊢
  all_goals
    rename_i ho
    rw [ho] at h
    cases o <;> simp [Owner.affects, readRegister, Ppu.statByte] at h ⊢

/-- A write touches its own address. -/
theorem touched_self (w : Word) : touched w w = true := by
  simp [touched]

/-- The registers a write may change are the ones the statements name. -/
theorem touched_of_affects {w a y : Word} (ha : (owner a).deviceAddr = some y) (h : (owner w).affects (owner a) = true) :
    touched w a = true := by
  have hay := owner_device ha
  unfold Owner.affects at h
  split at h
  case h_7 =>
    have hsame : owner w = owner a := of_decide_eq_true h
    rw [owner_device ((congrArg Owner.deviceAddr hsame).trans ha), hay]
    exact touched_self y
  all_goals
    rename_i how hoa
    rw [owner_device (congrArg Owner.deviceAddr how), owner_device (congrArg Owner.deviceAddr hoa)]
    decide

/-! Plain storage. -/

/-- The key of a plain address is the address out of the mirror. -/
theorem unmirrored_of_store {a : Word} {k : Nat} (h : owner a = .store k) : (unmirrored a).toNat = k := by
  unfold unmirrored
  obtain ⟨h1, h2, hk⟩ | ⟨hout, hk⟩ := owner_store_key h
  · rw [if_pos ⟨h1, h2⟩]
    bv_omega
  · rw [if_neg (by omega), hk]

/-- A write leaves every byte of the memory but the one it stores and, for the DMA trigger, OAM. -/
theorem read_busWrite_mem {s : State} (hm : s.mem.wf) {w : Word} {k : Nat} (hstore : owner w ≠ .store k)
    (hdma : owner w = .dma → k < 0xFE00 ∨ 0xFEA0 ≤ k) (v : Byte) : (busWrite s w v).mem.read k = s.mem.read k := by
  unfold busWrite
  split
  case h_3 j hj =>
    have hne : ¬k = j := fun hk => hstore (hk ▸ hj)
    exact (Memory.read_write _ hm j k v).trans (if_neg hne)
  case h_17 ho => exact oamDma_read s v hm k (hdma ho)
  all_goals rfl

/-- Two addresses of one byte of storage touch each other. -/
theorem touched_of_store {w a : Word} {k : Nat} (hw : owner w = .store k) (ha : owner a = .store k) : touched w a = true := by
  have hsame : unmirrored a = unmirrored w :=
    BitVec.eq_of_toNat_eq ((unmirrored_of_store ha).trans (unmirrored_of_store hw).symm)
  simp [touched, hsame]

/-- The DMA trigger touches the bytes of OAM. -/
theorem touched_of_dma {w a : Word} {k : Nat} (hw : owner w = .dma) (ha : owner a = .store k) (hk : 0xFE00 ≤ k ∧ k < 0xFEA0) :
    touched w a = true := by
  have hoam : 0xFE00 ≤ a.toNat ∧ a.toNat < 0xFEA0 := by
    have := owner_store_key ha
    omega
  rw [owner_device (congrArg Owner.deviceAddr hw)]
  simp [touched, hoam]

/-- A byte write leaves every reading that it does not touch: the ROM and the ranges without storage always, a byte of storage by its
key, and a device register by its owner. -/
theorem busRead_busWrite_of_not_touched {s : State} (hm : s.mem.wf) {w a : Word} (h : touched w a = false) (v : Byte) :
    busRead (busWrite s w v) a = busRead s a := by
  rw [← Bool.not_eq_true] at h
  cases ho : owner a
  case cartRom => simp only [busRead, ho, busWrite_cart]
  case cartRam => simp only [busRead, ho]
  case unusable => simp only [busRead, ho]
  case store k =>
    have hdma : owner w = .dma → k < 0xFE00 ∨ 0xFEA0 ≤ k := fun hw => by
      have := mt (touched_of_dma hw ho) h
      omega
    rw [busRead_store ho, busRead_store ho, read_busWrite_mem hm (fun hw => h (touched_of_store hw ho)) hdma]
  all_goals
    have ha := congrArg Owner.deviceAddr ho
    rw [busRead_device ha, busRead_device ha]
    exact readRegister_busWrite (Bool.not_eq_true _ ▸ mt (touched_of_affects ha) h) v

end Sys2Proof.Machine

namespace Sys2Proof.Laws

open Sys2Proof.Machine

/-- Settles O45, by the owner of the address read. -/
theorem writesTouchOnlyTheirAddresses : Obligations.WritesTouchOnlyTheirAddresses :=
  fun _ _ _ v hm h => busRead_busWrite_of_not_touched hm h v

end Sys2Proof.Laws
end

section
/-! SUPPORT. A byte write seen from its own address (20_memory R64, R70, R80, R84). -/

namespace Sys2Proof.Machine

/-- The owners that hold a whole byte: plain storage, and the registers of eight bits that a write replaces. -/
def Owner.holdsByte : Owner → Bool
  | .cartRom | .cartRam | .unusable | .p1 | .div | .tac | .ifl | .stat | .ly => false
  | _ => true

/-- An address whose owner holds a whole byte reads back what was written. -/
theorem busRead_busWrite_of_holdsByte {s : State} (hm : s.mem.wf) {a : Word} (h : (owner a).holdsByte) (v : Byte) :
    busRead (busWrite s a v) a = v := by
  cases ho : owner a
  case store k => exact busRead_busWrite_store hm ho v
  case cartRom | cartRam | unusable | p1 | div | tac | ifl | stat | ly => rw [ho] at h; cases h
  case lcdc => simp only [busRead, busWrite, ho, Ppu.writeLcdc_lcdc]
  case dma =>
    simp only [busRead, busWrite, ho]
    rw [oamDma_mem]
  all_goals simp only [busRead, busWrite, ho, Timer.writeTima, Timer.writeTma]

/-- Every RAM, and IE, holds a whole byte. -/
theorem holdsByte_ram {a : Word} (h : 0x8000 ≤ a.toNat ∧ a.toNat < 0xA000 ∨ 0xC000 ≤ a.toNat ∧ a.toNat < 0xFEA0 ∨ 0xFF80 ≤ a.toNat) :
    (owner a).holdsByte := by
  obtain ⟨k, hk, -⟩ | hie := owner_ram h
  · rw [hk]; rfl
  · rw [hie]; rfl

/-- The I/O block holds whole bytes but at six registers. -/
theorem holdsByte_io : ∀ n < 0x80, BitVec.ofNat 16 (0xFF00 + n) ∉ [(0xFF00 : Word), 0xFF04, 0xFF07, 0xFF0F, 0xFF41, 0xFF44] →
    (owner (BitVec.ofNat 16 (0xFF00 + n))).holdsByte := by
  decide

/-- The bits that a write stores in P1, where they are read. -/
theorem p1_bits (v : Byte) : (v.extractLsb' 4 2).setWidth 8 <<< 4 = v &&& (0x30 : Byte) ∧
    (v.extractLsb' 4 2).getLsbD 0 = v.getLsbD 4 ∧ (v.extractLsb' 4 2).getLsbD 1 = v.getLsbD 5 := by
  revert v; decide

/-- P1 after a write: the selection written, and the lines that it selects. -/
theorem Joypad.writeP1_p1Byte (j : Joypad) (v : Byte) :
    (j.writeP1 v).p1Byte = (0xC0 : Byte) ||| (v &&& (0x30 : Byte)) |||
      ((0x0F : Byte) &&& ~~~((if v.getLsbD 4 then (0 : Byte) else j.buttons &&& 0x0F) |||
        (if v.getLsbD 5 then (0 : Byte) else j.buttons >>> 4))) := by
  obtain ⟨hsel, hdir, hact⟩ := p1_bits v
  rw [Joypad.p1Byte, Joypad.setWidth_lines]
  simp only [Joypad.writeP1, hsel, hdir, hact]

/-- The three bits that a write stores in TAC, where they are read. -/
theorem tac_bits (v : Byte) : (v.extractLsb' 0 3).setWidth 8 = v &&& 0x07 := by
  revert v; decide

/-- The five bits that a write stores in IF, where they are read. -/
theorem ifl_bits (v : Byte) : (v.extractLsb' 0 5).setWidth 8 = v &&& 0x1F := by
  revert v; decide

/-- The four bits that a write stores in STAT, where they are read. -/
theorem stat_bits (v : Byte) : (v.extractLsb' 3 4).setWidth 8 <<< 3 = v &&& (0x78 : Byte) := by
  revert v; decide

/-- The low three bits of STAT are the line comparison and the mode. -/
theorem Ppu.statByte_low (p : Ppu) :
    p.statByte &&& 0x07 = bitAt (decide (p.ly = p.lyc)) 2 ||| BitVec.ofNat 8 p.mode.number := by
  unfold Ppu.statByte
  generalize p.statEnables = e, decide (p.ly = p.lyc) = c, p.mode = m
  cases m <;> revert e c <;> decide

/-- STAT after a write: the enables written, and the bits that no write changes. -/
theorem Ppu.statByte_withEnables (p : Ppu) (v : Byte) :
    Ppu.statByte { p with statEnables := v.extractLsb' 3 4 } = 0x80 ||| (v &&& 0x78) ||| (p.statByte &&& 0x07) := by
  rw [Ppu.statByte_low, ← stat_bits v, ← BitVec.or_assoc]
  rfl

end Sys2Proof.Machine

namespace Sys2Proof.Laws

open Sys2Proof.Machine

/-- Settles O44, by the owner of the address: the ranges, the six registers whose reading is not the byte written, and the rest of the
I/O block. -/
theorem readAfterWriteGivesTheRegister : Obligations.ReadAfterWriteGivesTheRegister := by
  intro s a v hm
  obtain ⟨hrom, hnone, hdrop, -⟩ := regionsAnswerAsMapped s a v
  obtain ⟨-, hnone', -, -⟩ := regionsAnswerAsMapped (busWrite s a v) a v
  refine ⟨fun h => busRead_busWrite_of_holdsByte hm (holdsByte_ram h) v, fun h => ?_, hnone', ?_, ?_, ?_, ?_, ?_,
    fun ⟨hlo, hhi, hne⟩ => ?_⟩
  · rw [hdrop (.inl h)]
  · rintro rfl
    exact s.joypad.writeP1_p1Byte v
  · rintro (rfl | rfl)
    · show (s.timer.writeDiv).sysCounter.extractLsb' 8 8 = 0
      simp
    · rfl
  · rintro rfl
    show 0xF8 ||| (s.timer.writeTac v).tac.setWidth 8 = 0xF8 ||| (v &&& 0x07)
    rw [Timer.writeTac_tac, tac_bits]
  · rintro rfl
    show 0xE0 ||| (v.extractLsb' 0 5).setWidth 8 = 0xE0 ||| (v &&& 0x1F)
    rw [ifl_bits]
  · rintro rfl
    exact s.ppu.statByte_withEnables v
  · have ha : a = BitVec.ofNat 16 (0xFF00 + (a.toNat - 0xFF00)) := by bv_omega
    have hbyte := holdsByte_io (a.toNat - 0xFF00) (by omega)
    rw [← ha] at hbyte
    exact busRead_busWrite_of_holdsByte hm (hbyte hne) v

end Sys2Proof.Laws
end

section
/-! SUPPORT. What each shape leaves of the CPU: the general registers but its destinations, SP and PC but where it moves them, and the
four control bits (10_state R22, R27 to R32). -/

namespace Sys2Proof.Machine

variable (s : State)

/-! The general registers, by the operation that writes them. -/

/-- The two registers of a pair of `r16`; SP is none. -/
def R16.regs : R16 → List R8
  | .bc => [.b, .c]
  | .de => [.d, .e]
  | .hl => [.h, .l]
  | .sp => []

/-- The general registers of a pair of `r16stk`; F is none. -/
def R16Stk.regs : R16Stk → List R8
  | .bc => [.b, .c]
  | .de => [.d, .e]
  | .hl => [.h, .l]
  | .af => [.a]

/-- The register of an `r8`; the byte at HL is none. -/
def R8.regs (r : R8) : List R8 := if r = .indHl then [] else [r]

/-- A register reads the CPU alone. -/
theorem readR8_congr {s t : State} {r : R8} (hr : r ≠ .indHl) (h : t.cpu = s.cpu) : readR8 t r = readR8 s r := by
  cases r
  case indHl => exact absurd rfl hr
  all_goals simp only [readR8, h]

theorem readR8_withFlags (x : FlagBits) (r : R8) : readR8 (s.withFlags x) r = readR8 s r := by
  cases r <;> rfl

theorem readR8_withSp (v : Word) (r : R8) : readR8 (s.withSp v) r = readR8 s r := by
  cases r <;> rfl

theorem readR8_withPc (v : Word) (r : R8) : readR8 (s.withPc v) r = readR8 s r := by
  cases r <;> rfl

theorem readR8_withA_self (r : R8) : readR8 (s.withA s.cpu.a) r = readR8 s r := by
  cases r <;> rfl

theorem readR8_withA {r : R8} (hr : r ≠ .indHl) (h : r ∉ [.a]) (v : Byte) : readR8 (s.withA v) r = readR8 s r := by
  cases r
  case indHl => exact absurd rfl hr
  case a => exact absurd (by decide) h
  all_goals rfl

theorem readR8_withHl {r : R8} (hr : r ≠ .indHl) (h : r ∉ [.h, .l]) (v : Word) : readR8 (s.withHl v) r = readR8 s r := by
  cases r
  case indHl => exact absurd rfl hr
  case h | l => exact absurd (by decide) h
  all_goals rfl

theorem readR8_writeR8_of_not_mem {r q : R8} (hq : q ≠ .indHl) (h : q ∉ r.regs) (v : Byte) :
    readR8 (writeR8 s r v) q = readR8 s q := by
  by_cases hr : r = .indHl
  · rw [hr]
    exact readR8_congr hq (busWrite_cpu s _ _)
  · rw [R8.regs, if_neg hr, List.mem_singleton] at h
    exact (readR8_writeR8 s hr hq v).trans (if_neg h)

theorem readR8_writeR16 {r : R8} (hr : r ≠ .indHl) {p : R16} (h : r ∉ p.regs) (w : Word) :
    readR8 (writeR16 s p w) r = readR8 s r := by
  cases r
  case indHl => exact absurd rfl hr
  all_goals
    cases p <;> simp [R16.regs] at h <;> rfl

theorem readR8_writeStk {r : R8} (hr : r ≠ .indHl) {p : R16Stk} (h : r ∉ p.regs) (w : Word) :
    readR8 (writeStk s p w) r = readR8 s r := by
  cases r
  case indHl => exact absurd rfl hr
  all_goals
    cases p <;> simp [R16Stk.regs] at h <;> rfl

theorem readR8_push16 {r : R8} (hr : r ≠ .indHl) (w : Word) : readR8 (push16 s w) r = readR8 s r :=
  (readR8_congr hr (push16_cpu s w)).trans (readR8_withSp s _ r)

/-! SP, PC and the control bits. -/

/-- The bits of the CPU's state that no register holds: halted, stopped, IME and the pending enable (10_state R29 to R32). -/
structure Control where
  halted : Bool
  stopped : Bool
  ime : Bool
  imePending : Bool

/-- The control bits of a state. -/
def State.control : Control := ⟨s.cpu.halted, s.cpu.stopped, s.irq.ime, s.irq.imePending⟩

theorem busWrite_control (a : Word) (v : Byte) : (busWrite s a v).control = s.control := by
  simp [State.control]

theorem push16_control (v : Word) : (push16 s v).control = s.control := by
  simp [State.control, push16_cpu]

theorem writeR8_control (r : R8) (v : Byte) : (writeR8 s r v).control = s.control := by
  obtain ⟨-, -, -, hhalted, hstopped, hime, hpending⟩ := writeR8_kept (s := s) r v
  simp only [State.control, hhalted, hstopped, hime, hpending]

theorem writeR8_sp (r : R8) (v : Byte) : (writeR8 s r v).cpu.sp = s.cpu.sp := by
  obtain ⟨-, hsp, -⟩ := writeR8_kept (s := s) r v
  exact hsp

theorem writeR8_pc (r : R8) (v : Byte) : (writeR8 s r v).cpu.pc = s.cpu.pc := by
  obtain ⟨-, -, hpc, -⟩ := writeR8_kept (s := s) r v
  exact hpc

theorem busWrite_sp (a : Word) (v : Byte) : (busWrite s a v).cpu.sp = s.cpu.sp := by
  rw [busWrite_cpu]

theorem busWrite_pc (a : Word) (v : Byte) : (busWrite s a v).cpu.pc = s.cpu.pc := by
  rw [busWrite_cpu]

theorem push16_pc (v : Word) : (push16 s v).cpu.pc = s.cpu.pc := by
  rw [push16_cpu]

theorem writeWord_cpu (a v : Word) : (writeWord s a v).cpu = s.cpu := by
  simp [writeWord]

end Sys2Proof.Machine

namespace Sys2Proof.Laws

open Sys2Proof.Machine Sys2Proof.Claims

/-! The instruction that an instruction runs. -/

/-- The instruction of the secondary table that the prefix byte runs, by the byte at PC. -/
def secondaryAt (s : State) : Instr := decodeBytes 0xCB (busRead s s.cpu.pc) 0

/-- The prefix byte's shape is its own. -/
theorem shapeOf_ne_fetchSecondary {i : Instr} (h : i ≠ .prefixCb) : shapeOf i ≠ .fetchSecondary := by
  cases i
  case prefixCb => exact absurd rfl h
  all_goals exact nofun

/-- An instruction runs its own shape, and the prefix byte that of the secondary instruction, one byte further. -/
theorem run_of_exec {i : Instr} {s t : State} (h : exec i s = .next t) :
    i ≠ .prefixCb ∧ (shapeOf i).run s = .next t ∨
      i = .prefixCb ∧ secondaryAt s ≠ .prefixCb ∧ (shapeOf (secondaryAt s)).run (skipBytes s 1) = .next t := by
  by_cases hi : i = .prefixCb
  · subst hi
    obtain ⟨hne, -, -⟩ := secondary_forms (busRead s s.cpu.pc)
    exact .inr ⟨rfl, hne, (exec_shape _ _).symm.trans ((exec_prefixCb s).symm.trans h)⟩
  · exact .inl ⟨hi, (exec_shape i s).symm.trans h⟩

/-! The general registers. -/

/-- The general registers a shape writes. -/
def Shape.dests : Shape → List R8
  | .loadR8 r _ _ | .loadR8Imm r _ _ | .incR8 r _ | .decR8 r _ | .rotateR8 _ r _ | .resBit _ r _ | .setBit _ r _ => r.regs
  | .loadA _ _ | .adjustA | .complementA | .rotateA _ => [.a]
  | .aluA op _ _ => if op = .cp then [] else [.a]
  | .loadAThenHl _ => [.a, .h, .l]
  | .storeAThenHl _ | .loadHlSpOffset _ | .addHl _ => [.h, .l]
  | .loadR16 r _ | .incR16 r | .decR16 r => r.regs
  | .popStk r => r.regs
  | _ => []

/-- The destinations the statements name are those of the shape. -/
theorem dests_shapeOf {i : Instr} (h : i ≠ .prefixCb) : (shapeOf i).dests = ownDestinations i := by
  cases i
  case prefixCb => exact absurd rfl h
  all_goals rfl

/-- A shape leaves every register but its destinations. -/
theorem Shape.readR8_kept {p : Shape} (hp : p ≠ .fetchSecondary) {s t : State} (h : p.run s = .next t) {r : R8}
    (hr : r ≠ .indHl) (hd : r ∉ p.dests) : readR8 t r = readR8 s r := by
  cases p
  case fetchSecondary => exact absurd rfl hp
  all_goals cases h
  case loadR8 | loadR8Imm | resBit | setBit => exact readR8_writeR8_of_not_mem s hr hd _
  case incR8 | decR8 | rotateR8 => exact (readR8_writeR8_of_not_mem (s.withFlags _) hr hd _).trans (readR8_withFlags s _ r)
  case loadA => exact readR8_withA s hr hd _
  case adjustA | complementA | rotateA => exact (readR8_withA (s.withFlags _) hr hd _).trans (readR8_withFlags s _ r)
  case aluA op src n =>
    by_cases hop : op = .cp
    · subst hop
      exact (readR8_withA_self (s.withFlags _) r).trans (readR8_withFlags s _ r)
    · rw [Shape.dests, if_neg hop] at hd
      exact (readR8_withA (s.withFlags _) hr hd _).trans (readR8_withFlags s _ r)
  case loadAThenHl =>
    have ha : r ∉ [.a] := fun h => hd (List.mem_append_left [R8.h, R8.l] h)
    have hhl : r ∉ [.h, .l] := fun h => hd (.tail _ h)
    exact (readR8_withHl (s.withA _) hr hhl _).trans (readR8_withA s hr ha _)
  case storeAThenHl => exact (readR8_withHl (busWrite s _ _) hr hd _).trans (readR8_congr hr (busWrite_cpu s _ _))
  case loadHlSpOffset | addHl => exact (readR8_withHl (s.withFlags _) hr hd _).trans (readR8_withFlags s _ r)
  case loadR16 | incR16 | decR16 => exact readR8_writeR16 s hr hd _
  case popStk => exact (readR8_writeStk (dropWord s) hr hd _).trans (readR8_withSp s _ r)
  case storeA => exact readR8_congr hr (busWrite_cpu s _ _)
  case storeSp => exact readR8_congr hr (writeWord_cpu s _ _)
  case pushStk => exact readR8_push16 s hr _
  case callTo => exact (readR8_withPc (push16 s _) _ r).trans (readR8_push16 s hr _)
  case callIf =>
    split
    · exact (readR8_withPc (push16 s _) _ r).trans (readR8_push16 s hr _)
    · cases r <;> rfl
  case jumpIf | jumpRelativeIf | retIf => split <;> cases r <;> rfl
  all_goals cases r <;> rfl

/-- The prefix byte's destinations are the secondary instruction's. -/
theorem destinations_prefixCb (s : State) : destinations .prefixCb s = ownDestinations (secondaryAt s) := rfl

/-- Settles O38, by the destinations of the shape. -/
theorem otherRegistersAreKept : Obligations.OtherRegistersAreKept := by
  intro i s t r h hr hd
  obtain ⟨hi, hrun⟩ | ⟨rfl, hne, hrun⟩ := run_of_exec h
  · rw [destinations, if_neg hi, ← dests_shapeOf hi] at hd
    exact Shape.readR8_kept (shapeOf_ne_fetchSecondary hi) hrun hr hd
  · rw [destinations_prefixCb, ← dests_shapeOf hne] at hd
    exact (Shape.readR8_kept (shapeOf_ne_fetchSecondary hne) hrun hr hd).trans (readR8_withPc s _ r)

/-! SP and PC. -/

/-- Whether a shape may move SP. -/
def Shape.movesSp : Shape → Bool
  | .loadR16 r _ | .incR16 r | .decR16 r => r = .sp
  | .loadSpHl | .pushStk _ | .popStk _ | .addSpOffset _ | .callTo _ _ | .callIf _ _ | .ret | .retIf _ | .retInterrupt => true
  | _ => false

/-- Whether a shape may move PC past the instruction's bytes. -/
def Shape.movesPc : Shape → Bool
  | .jumpTo _ _ | .jumpIf _ _ | .jumpRelativeIf _ _ | .callTo _ _ | .callIf _ _ | .ret | .retIf _ | .retInterrupt => true
  | _ => false

/-- The instructions the statements name are those whose shapes move SP, and PC. -/
theorem moves_shapeOf {i : Instr} (h : i ≠ .prefixCb) :
    (shapeOf i).movesSp = writesSp i ∧ (shapeOf i).movesPc = writesPc i := by
  cases i
  case prefixCb => exact absurd rfl h
  all_goals exact ⟨rfl, rfl⟩

/-- No instruction of the secondary table moves SP or PC. -/
theorem secondaryShape_moves (b : Byte) : (secondaryShape b).movesSp = false ∧ (secondaryShape b).movesPc = false := by
  unfold secondaryShape
  dsimp only
  generalize b.toNat / 64 = x
  match x with
  | 0 | 1 | 2 | _ + 3 => exact ⟨rfl, rfl⟩

/-- A shape that does not move SP leaves it. -/
theorem Shape.sp_kept {p : Shape} (hp : p ≠ .fetchSecondary) {s t : State} (h : p.run s = .next t) (hm : p.movesSp = false) :
    t.cpu.sp = s.cpu.sp := by
  cases p
  case fetchSecondary => exact absurd rfl hp
  case loadSpHl | pushStk | popStk | addSpOffset | callTo | callIf | ret | retIf | retInterrupt => cases hm
  all_goals cases h
  case loadR8 | loadR8Imm | resBit | setBit => exact writeR8_sp s _ _
  case incR8 | decR8 | rotateR8 => exact writeR8_sp (s.withFlags _) _ _
  case storeA | storeAThenHl => exact busWrite_sp s _ _
  case storeSp => exact congrArg Cpu.sp (writeWord_cpu s _ _)
  case loadR16 r _ | incR16 r | decR16 r =>
    cases r
    case sp => cases hm
    all_goals rfl
  case jumpIf | jumpRelativeIf => split <;> rfl
  all_goals rfl

/-- A shape that does not move PC leaves it. -/
theorem Shape.pc_kept {p : Shape} (hp : p ≠ .fetchSecondary) {s t : State} (h : p.run s = .next t) (hm : p.movesPc = false) :
    t.cpu.pc = s.cpu.pc := by
  cases p
  case fetchSecondary => exact absurd rfl hp
  case jumpTo | jumpIf | jumpRelativeIf | callTo | callIf | ret | retIf | retInterrupt => cases hm
  all_goals cases h
  case loadR8 | loadR8Imm | resBit | setBit => exact writeR8_pc s _ _
  case incR8 | decR8 | rotateR8 => exact writeR8_pc (s.withFlags _) _ _
  case storeA | storeAThenHl => exact busWrite_pc s _ _
  case storeSp => exact congrArg Cpu.pc (writeWord_cpu s _ _)
  case pushStk => exact push16_pc s _
  case loadR16 r _ | incR16 r | decR16 r | popStk r => cases r <;> rfl
  all_goals rfl

/-- Settles O40, by the shapes that move SP and PC; the prefix byte runs none of them, one byte further. -/
theorem spAndPcAreKept : Obligations.SpAndPcAreKept := by
  intro i s t h
  obtain ⟨hi, hrun⟩ | ⟨rfl, hne, hrun⟩ := run_of_exec h
  · have hshape := shapeOf_ne_fetchSecondary hi
    obtain ⟨hsp, hpc⟩ := moves_shapeOf hi
    exact ⟨fun hw => Shape.sp_kept hshape hrun (hsp.trans hw), fun hw => Shape.pc_kept hshape hrun (hpc.trans hw),
      fun hcb => absurd hcb hi⟩
  · have hshape := shapeOf_ne_fetchSecondary hne
    obtain ⟨-, hform, -⟩ := secondary_forms (busRead s s.cpu.pc)
    obtain ⟨hsp, hpc⟩ := secondaryShape_moves (busRead s s.cpu.pc)
    rw [← hform] at hsp hpc
    exact ⟨fun _ => Shape.sp_kept (s := skipBytes s 1) hshape hrun hsp, nofun, fun _ => Shape.pc_kept hshape hrun hpc⟩

/-! The control bits. -/

/-- The control bits after a shape, from those before it. -/
def Shape.controlAfter (k : Control) : Shape → Control
  | .enterHalt => { k with halted := true }
  | .enterStop => { k with stopped := true }
  | .enableInterrupts => { k with imePending := true }
  | .disableInterrupts => { k with ime := false, imePending := false }
  | .retInterrupt => { k with ime := true, imePending := false }
  | _ => k

/-- The control bits after an instruction, from those before it, as the statements name them. -/
def controlAfter (i : Instr) (k : Control) : Control where
  halted := if i = .halt then true else k.halted
  stopped := match i with
    | .stop _ => true
    | _ => k.stopped
  ime := if i = .reti then true else if i = .di then false else k.ime
  imePending := if i = .ei then true else if i = .reti ∨ i = .di then false else k.imePending

/-- The instructions the statements name are those whose shapes change the control bits. -/
theorem controlAfter_shapeOf (i : Instr) (k : Control) : (shapeOf i).controlAfter k = controlAfter i k := by
  cases i <;> rfl

/-- No instruction of the secondary table changes the control bits. -/
theorem secondaryShape_controlAfter (b : Byte) (k : Control) : (secondaryShape b).controlAfter k = k := by
  unfold secondaryShape
  dsimp only
  generalize b.toNat / 64 = x
  match x with
  | 0 | 1 | 2 | _ + 3 => rfl

/-- A shape leaves the control bits as it says. -/
theorem Shape.control_run {p : Shape} (hp : p ≠ .fetchSecondary) {s t : State} (h : p.run s = .next t) :
    t.control = p.controlAfter s.control := by
  cases p
  case fetchSecondary => exact absurd rfl hp
  all_goals cases h
  case loadR8 | loadR8Imm | resBit | setBit => exact writeR8_control s _ _
  case incR8 | decR8 | rotateR8 => exact writeR8_control (s.withFlags _) _ _
  case storeA | storeAThenHl => exact busWrite_control s _ _
  case storeSp => exact (busWrite_control _ _ _).trans (busWrite_control _ _ _)
  case pushStk | callTo => exact push16_control s _
  case callIf =>
    split
    · exact push16_control s _
    · rfl
  case loadR16 r _ | incR16 r | decR16 r | popStk r => cases r <;> rfl
  case jumpIf | jumpRelativeIf | retIf => split <;> rfl
  all_goals rfl

/-- The control bits after an instruction are those the statements name. -/
theorem exec_control {i : Instr} {s t : State} (h : exec i s = .next t) : t.control = controlAfter i s.control := by
  obtain ⟨hi, hrun⟩ | ⟨rfl, hne, hrun⟩ := run_of_exec h
  · rw [Shape.control_run (shapeOf_ne_fetchSecondary hi) hrun, controlAfter_shapeOf]
  · obtain ⟨-, hform, -⟩ := secondary_forms (busRead s s.cpu.pc)
    rw [Shape.control_run (shapeOf_ne_fetchSecondary hne) hrun, secondaryAt, hform, secondaryShape_controlAfter]
    rfl

/-- Settles O41, by the control bits after the shape. -/
theorem controlBitsChangeByTheirInstructions : Obligations.ControlBitsChangeByTheirInstructions := by
  intro i s t h
  obtain ⟨hhalted, hstopped, hime, hpending⟩ := Control.mk.inj (exec_control h)
  exact ⟨hhalted, hstopped, hime, hpending⟩

end Sys2Proof.Laws
end

section
/-! SUPPORT. What the stores of an instruction leave alone: the addresses it stores to are the ones the statements name, and a run of
stores keeps whatever each of them keeps (20_memory R62, R110, 10_state R38). -/

namespace Sys2Proof.Machine

open Sys2Proof.Laws Sys2Proof.Claims

/-! A run of stores. -/

/-- A run of stores keeps what each of them keeps. -/
theorem writeAll_keeps {α : Type} (f : State → α) {l : List (Word × Byte)} (h : ∀ x ∈ l, ∀ u, f (busWrite u x.1 x.2) = f u)
    (s : State) : f (writeAll s l) = f s := by
  induction l generalizing s with
  | nil => rfl
  | cons x l ih =>
    calc f (writeAll (busWrite s x.1 x.2) l) = f (busWrite s x.1 x.2) := ih (fun y hy => h y (.tail x hy)) _
      _ = f s := h x (.head l) s

/-- A run of stores does not look at the registers of the CPU. -/
theorem writeAll_of_cpu (s : State) (c : Cpu) (l : List (Word × Byte)) :
    writeAll { s with cpu := c } l = { writeAll s l with cpu := c } := by
  induction l generalizing s with
  | nil => rfl
  | cons x l ih =>
    have hx : busWrite { s with cpu := c } x.1 x.2 = { busWrite s x.1 x.2 with cpu := c } := by
      have hc := busWrite_of_cpu s c s.cycles x.1 x.2
      rw [← busWrite_cycles s x.1 x.2] at hc
      simpa using hc
    rw [writeAll, hx, ih]
    rfl

/-- A run of stores leaves every reading that none of them touches. -/
theorem busRead_writeAll {s : State} (hm : s.mem.wf) {a : Word} {l : List (Word × Byte)}
    (h : ∀ x ∈ l, touched x.1 a = false) : busRead (writeAll s l) a = busRead s a := by
  induction l generalizing s with
  | nil => rfl
  | cons x l ih =>
    calc busRead (writeAll (busWrite s x.1 x.2) l) a = busRead (busWrite s x.1 x.2) a :=
          ih (busWrite_wf s hm x.1 x.2) fun y hy => h y (.tail x hy)
      _ = busRead s a := busRead_busWrite_of_not_touched hm (h x (.head l)) x.2

/-! The devices a store keeps, by its address. -/

/-- The timer changes by a store to its four registers. -/
theorem busWrite_timer (s : State) {a : Word} (h : a ∉ [(0xFF04 : Word), 0xFF05, 0xFF06, 0xFF07]) (v : Byte) :
    (busWrite s a v).timer = s.timer := by
  unfold busWrite
  split
  case h_6 ho | h_7 ho | h_8 ho | h_9 ho => exact absurd (by rw [owner_device (congrArg Owner.deviceAddr ho)]; decide) h
  case h_17 => rw [oamDma_mem]
  all_goals rfl

/-- The PPU changes by a store to its registers, which are those of 0xFF40 to 0xFF4B but for the DMA trigger. -/
theorem busWrite_ppu (s : State) {a : Word} (h : a.toNat < 0xFF40 ∨ 0xFF4B < a.toNat ∨ a = 0xFF46) (v : Byte) :
    (busWrite s a v).ppu = s.ppu := by
  unfold busWrite
  split
  case h_11 ho | h_12 ho | h_13 ho | h_14 ho | h_15 ho | h_16 ho | h_18 ho | h_19 ho | h_20 ho | h_21 ho | h_22 ho =>
    rw [owner_device (congrArg Owner.deviceAddr ho)] at h
    exact absurd h (by decide)
  case h_17 => rw [oamDma_mem]
  all_goals rfl

/-- DMA changes by a store to the DMA trigger. -/
theorem busWrite_dma_of_ne (s : State) {a : Word} (h : a ≠ 0xFF46) (v : Byte) : (busWrite s a v).dma = s.dma := by
  unfold busWrite
  split
  case h_17 ho => exact absurd (owner_device (congrArg Owner.deviceAddr ho)) h
  all_goals rfl

/-- The joypad changes by a store to P1. -/
theorem busWrite_joypad (s : State) {a : Word} (h : a ≠ 0xFF00) (v : Byte) : (busWrite s a v).joypad = s.joypad := by
  unfold busWrite
  split
  case h_5 ho => exact absurd (owner_device (congrArg Owner.deviceAddr ho)) h
  case h_17 => rw [oamDma_mem]
  all_goals rfl

/-- IF changes by a store to it. -/
theorem busWrite_ifl (s : State) {a : Word} (h : a ≠ 0xFF0F) (v : Byte) : (busWrite s a v).irq.ifl = s.irq.ifl := by
  unfold busWrite
  split
  case h_10 ho => exact absurd (owner_device (congrArg Owner.deviceAddr ho)) h
  case h_17 => rw [oamDma_mem]
  all_goals rfl

/-- IE changes by a store to it. -/
theorem busWrite_ie (s : State) {a : Word} (h : a ≠ 0xFFFF) (v : Byte) : (busWrite s a v).irq.ie = s.irq.ie := by
  unfold busWrite
  split
  case h_17 => rw [oamDma_mem]
  case h_23 ho => exact absurd (owner_device (congrArg Owner.deviceAddr ho)) h
  all_goals rfl

end Sys2Proof.Machine

namespace Sys2Proof.Laws

open Sys2Proof.Machine Sys2Proof.Claims

/-- The addresses a shape stores to are those the statements name for its instruction. -/
theorem stores_targets {i : Instr} (h : i ≠ .prefixCb) (s : State) : ((shapeOf i).stores s).map Prod.fst = ownTargets i s := by
  cases i
  case prefixCb => exact absurd rfl h
  case ldhIndA8A n => exact congrArg (fun a => [a]) (highPage_eq n)
  case ldhIndCA => exact congrArg (fun a => [a]) (highPage_eq s.cpu.c)
  case callNzA16 | callZA16 | callNcA16 | callCA16 => exact apply_ite (List.map Prod.fst) _ _ _
  all_goals rfl

/-- The registers of the CPU may have changed before the stores. -/
theorem StoresOnly.of_cpu {s t : State} {c : Cpu} {l : List (Word × Byte)} (h : StoresOnly { s with cpu := c } t l) :
    StoresOnly s t l := by
  obtain ⟨c', b, p, n, rfl⟩ := h
  refine ⟨c', b, p, n, ?_⟩
  rw [writeAll_of_cpu]

/-- Every instruction stores bytes at the addresses the statements name, and changes else only the registers of the CPU, the interrupt
enables and the cycles. -/
theorem exec_storesOnly {i : Instr} {s t : State} (h : exec i s = .next t) :
    ∃ l, l.map Prod.fst = storeTargets i s ∧ StoresOnly s t l := by
  obtain ⟨hi, hrun⟩ | ⟨rfl, hne, hrun⟩ := run_of_exec h
  · refine ⟨_, (stores_targets hi s).trans ?_, Shape.storesOnly _ (shapeOf_ne_fetchSecondary hi) s t hrun⟩
    rw [storeTargets, if_neg hi]
  · exact ⟨_, stores_targets hne (skipBytes s 1), (Shape.storesOnly _ (shapeOf_ne_fetchSecondary hne) _ t hrun).of_cpu⟩

/-- Settles O42, by the list of the instruction's stores. -/
theorem otherBytesAreKept : Obligations.OtherBytesAreKept := by
  intro i s t hm h
  obtain ⟨l, hl, c, b, p, n, rfl⟩ := exec_storesOnly h
  refine ⟨fun a ha => ?_, fun hnil => ?_⟩
  · refine Eq.trans ?_ (busRead_writeAll hm fun x hx => ha x.1 (hl ▸ List.mem_map_of_mem hx))
    rfl
  · have hempty : l = [] := List.map_eq_nil_iff.mp (hl.trans hnil)
    rw [hempty]
    rfl

/-- Settles O43, by the list of the instruction's stores and what each of them keeps. -/
theorem otherDevicesAreKept : Obligations.OtherDevicesAreKept := by
  intro i s t h
  obtain ⟨u, hu, heffect⟩ := exec_effect i s
  cases hu.symm.trans h
  obtain ⟨hcart, hinputs, hbuttons, hframe⟩ := heffect.frame
  obtain ⟨l, hl, c, b, p, n, rfl⟩ := exec_storesOnly h
  have targets : ∀ x ∈ l, x.1 ∈ storeTargets i s := fun x hx => hl ▸ List.mem_map_of_mem hx
  exact ⟨fun hw => writeAll_keeps State.timer (fun x hx u => busWrite_timer u (hw _ (targets x hx)) x.2) s,
    fun hw => writeAll_keeps State.ppu (fun x hx u => busWrite_ppu u (hw _ (targets x hx)) x.2) s,
    fun hw => writeAll_keeps State.dma (fun x hx u => busWrite_dma_of_ne u (hw _ (targets x hx)) x.2) s,
    fun hw => writeAll_keeps State.joypad (fun x hx u => busWrite_joypad u (hw _ (targets x hx)) x.2) s,
    fun hw => writeAll_keeps (fun u => u.irq.ifl) (fun x hx u => busWrite_ifl u (hw _ (targets x hx)) x.2) s,
    fun hw => writeAll_keeps (fun u => u.irq.ie) (fun x hx u => busWrite_ie u (hw _ (targets x hx)) x.2) s,
    hcart, hbuttons, hinputs, hframe⟩

end Sys2Proof.Laws
end

section
/-! SUPPORT. The columns of the two opcode tables against the shapes: what each shape does with the flags, and what it costs
(30_encoding R130, R135; 70_reset_and_hazards R473). -/

namespace Sys2Proof.Laws

open Sys2Proof.Machine Sys2Proof.Claims

/-! The columns. -/

/-- The cell of the *flags* column of a shape's rows. -/
def Shape.flagCell : Shape → FlagCell
  | .incR8 _ _ => fV0VK
  | .decR8 _ _ => fV1VK
  | .rotateA _ => f000V
  | .addHl _ => fK0VV
  | .adjustA => fVK0V
  | .complementA => fK11K
  | .setCarry => fK001
  | .complementCarry => fK00V
  | .aluA .add _ _ | .aluA .adc _ _ => fV0VV
  | .aluA .sub _ _ | .aluA .sbc _ _ | .aluA .cp _ _ => fV1VV
  | .aluA .and _ _ => fV010
  | .aluA .xor _ _ | .aluA .or _ _ => fV000
  | .loadHlSpOffset _ | .addSpOffset _ => f00VV
  | .popStk .af => fVVVV
  | .rotateR8 .swap _ _ => fV000
  | .rotateR8 _ _ _ => fV00V
  | .bitBit _ _ _ => fV01K
  | _ => fKKKK

/-- The cycles of a shape, by whether its condition holds. -/
def Shape.cost (taken : Bool) : Shape → Nat
  | .loadR8 _ _ n | .loadR8Imm _ _ n | .loadA _ n | .storeA _ n | .aluA _ _ n | .incR8 _ n | .decR8 _ n | .rotateR8 _ _ n
  | .bitBit _ _ n | .resBit _ _ n | .setBit _ _ n | .jumpTo _ n | .callTo _ n | .noOperation n => n
  | .adjustA | .complementA | .setCarry | .complementCarry | .rotateA _ | .enterHalt | .enterStop | .disableInterrupts
  | .enableInterrupts => 4
  | .loadAThenHl _ | .storeAThenHl _ | .loadSpHl | .addHl _ | .incR16 _ | .decR16 _ => 8
  | .loadR16 _ _ | .loadHlSpOffset _ | .popStk _ => 12
  | .pushStk _ | .addSpOffset _ | .ret | .retInterrupt => 16
  | .storeSp _ => 20
  | .jumpIf _ _ => if taken then 16 else 12
  | .jumpRelativeIf _ _ => if taken then 12 else 8
  | .callIf _ _ => if taken then 24 else 12
  | .retIf _ => if taken then 20 else 8
  | .fetchSecondary => 0

/-- The condition of a shape; any other stands where a shape has none. -/
def Shape.conditionOr (cc : Cond) : Shape → Cond
  | .jumpIf cc' _ | .jumpRelativeIf cc' _ | .callIf cc' _ | .retIf cc' => cc'
  | _ => cc

/-- The primary table's columns at an opcode are those of the shape that it decodes to. -/
theorem primary_columns {op : Byte} (h : op ≠ 0xCB) (b1 b2 : Byte) :
    (flagGrid.getD (op.toNat / 16) []).getD (op.toNat % 16) fKKKK = (shapeOf (decodeBytes op b1 b2)).flagCell ∧
    (cycleGrid.getD (op.toNat / 16) []).getD (op.toNat % 16) 0 = (shapeOf (decodeBytes op b1 b2)).cost true ∧
    (cycleGridNotTaken.getD (op.toNat / 16) []).getD (op.toNat % 16) 0 = (shapeOf (decodeBytes op b1 b2)).cost false ∧
    (shapeOf (decodeBytes op b1 b2)).conditionOr (conditionOf op) = conditionOf op := by
  obtain ⟨n, hn, rfl⟩ : ∃ n < 256, op = BitVec.ofNat 8 n := ⟨op.toNat, op.isLt, by simp⟩
  obtain hlt | rfl | hgt := Nat.lt_trichotomy n 0xCB
  · interval_cases n <;> exact ⟨rfl, rfl, rfl, rfl⟩
  · exact absurd rfl h
  · interval_cases n <;> exact ⟨rfl, rfl, rfl, rfl⟩

/-- The secondary table's columns at an opcode are those of the shape that it selects. -/
theorem secondary_columns (b : Byte) :
    secondaryFlags b = (secondaryShape b).flagCell ∧ (∀ taken, secondaryCycles b = (secondaryShape b).cost taken) ∧
      ∀ cc, (secondaryShape b).conditionOr cc = cc := by
  obtain ⟨n, hn, rfl⟩ : ∃ n < 256, b = BitVec.ofNat 8 n := ⟨b.toNat, b.isLt, by simp⟩
  interval_cases n <;> exact ⟨rfl, fun _ => rfl, fun _ => rfl⟩

/-- A decoded instruction begins with its opcode. -/
theorem headD_encode_decodeBytes (b0 b1 b2 : Byte) : (encode (decodeBytes b0 b1 b2)).headD 0 = b0 := by
  obtain ⟨k, hk⟩ : ∃ k, instrLength b0 = k + 1 := Nat.exists_eq_add_of_le' (Entry.length_pos _)
  rw [encode_decodeBytes, hk, List.take_succ_cons, List.headD_cons]

/-- The statements' columns at a decoded instruction are those of its shape. -/
theorem columns_decodeBytes (b0 b1 b2 : Byte) (s : State) :
    let i := decodeBytes b0 b1 b2
    flagsOf i s = (shapeOf i).flagCell ∧ ∃ cc, (shapeOf i).conditionOr cc = cc ∧ cyclesOf i s = (shapeOf i).cost (s.holds cc) := by
  intro i
  by_cases hcb : b0 = 0xCB
  · subst hcb
    obtain ⟨hflags, hcycles, hcondition⟩ := secondary_columns b1
    obtain ⟨-, hform, -⟩ := secondary_forms b1
    have hi : i = decodeBytes 0xCB b1 0 := rfl
    have hbytes : encode i = [0xCB, b1] := encode_decodeBytes 0xCB b1 b2
    rw [flagsOf, cyclesOf, hbytes, hi, hform]
    exact ⟨hflags, .z, hcondition .z, hcycles _⟩
  · obtain ⟨hflags, htaken, hnot, hcondition⟩ := primary_columns hcb b1 b2
    have hhead : (encode i).headD 0 = b0 := headD_encode_decodeBytes b0 b1 b2
    rw [flagsOf, cyclesOf, hhead]
    refine ⟨(if_neg hcb).trans hflags, conditionOf b0, hcondition, (if_neg hcb).trans ?_⟩
    cases s.holds (conditionOf b0)
    · exact hnot
    · exact htaken

/-- The statements' columns at an instruction are those of its shape. -/
theorem columns_shapeOf {i : Instr} (h : i ≠ .prefixCb) (s : State) :
    flagsOf i s = (shapeOf i).flagCell ∧ ∃ cc, (shapeOf i).conditionOr cc = cc ∧ cyclesOf i s = (shapeOf i).cost (s.holds cc) := by
  have hi := decodeBytes_encode (i := i) (decide_eq_true h)
  rw [← hi]
  exact columns_decodeBytes _ _ _ s

/-- The statements' columns at the prefix byte are those of the secondary instruction it runs. -/
theorem columns_prefixCb (s : State) :
    flagsOf .prefixCb s = (shapeOf (secondaryAt s)).flagCell ∧ (∀ taken, cyclesOf .prefixCb s = (shapeOf (secondaryAt s)).cost taken) ∧
      ∀ cc, (shapeOf (secondaryAt s)).conditionOr cc = cc := by
  obtain ⟨-, hform, -⟩ := secondary_forms (busRead s s.cpu.pc)
  rw [secondaryAt, hform]
  exact secondary_columns (busRead s s.cpu.pc)

/-! The cycles. -/

/-- A shape costs its cycles, by its condition. -/
theorem Shape.cycles_run {p : Shape} (hp : p ≠ .fetchSecondary) {s t : State} (h : p.run s = .next t) (cc : Cond) :
    t.cycles = p.cost (s.holds (p.conditionOr cc)) := by
  cases p
  case fetchSecondary => exact absurd rfl hp
  all_goals cases h
  case jumpIf | jumpRelativeIf | callIf | retIf => exact apply_ite State.cycles _ _ _
  all_goals rfl

/-- An instruction costs what the columns say. -/
theorem exec_cycles {i : Instr} {s t : State} (h : exec i s = .next t) : t.cycles = cyclesOf i s := by
  obtain ⟨hi, hrun⟩ | ⟨rfl, hne, hrun⟩ := run_of_exec h
  · obtain ⟨-, cc, hcondition, hcycles⟩ := columns_shapeOf hi s
    rw [Shape.cycles_run (shapeOf_ne_fetchSecondary hi) hrun cc, hcondition, hcycles]
  · obtain ⟨-, hcycles, -⟩ := columns_prefixCb s
    rw [Shape.cycles_run (shapeOf_ne_fetchSecondary hne) hrun .z, hcycles]

/-- Settles O37, by the cost of the shape. -/
theorem everyInstructionCostsItsTableCycles : Obligations.EveryInstructionCostsItsTableCycles := by
  intro i s
  obtain ⟨t, ht, -⟩ := exec_effect i s
  exact ⟨t, ht, exec_cycles ht⟩

/-! The flags. -/

/-- Every flag obeys its rule of the cell, F going from one byte to the other. -/
def CellObeyed (cell : FlagCell) (f f' : Byte) : Prop :=
  cell.1.obeyed (f.getLsbD 7) (f'.getLsbD 7) ∧ cell.2.1.obeyed (f.getLsbD 6) (f'.getLsbD 6) ∧
    cell.2.2.1.obeyed (f.getLsbD 5) (f'.getLsbD 5) ∧ cell.2.2.2.obeyed (f.getLsbD 4) (f'.getLsbD 4)

/-- A byte that stays keeps every flag. -/
theorem cellObeyed_keep {f f' : Byte} (h : f' = f) : CellObeyed fKKKK f f' := by
  rw [h]
  exact ⟨rfl, rfl, rfl, rfl⟩

/-- A byte that holds four flags obeys a cell flag by flag. -/
theorem cellObeyed_pack {cell : FlagCell} {f f' : Byte} {x : FlagBits} (hf : f' = x.pack) (hz : cell.1.obeyed (f.getLsbD 7) x.z)
    (hn : cell.2.1.obeyed (f.getLsbD 6) x.n) (hh : cell.2.2.1.obeyed (f.getLsbD 5) x.h)
    (hc : cell.2.2.2.obeyed (f.getLsbD 4) x.c) : CellObeyed cell f f' := by
  rw [hf, CellObeyed, FlagBits.pack_getLsbD_z, FlagBits.pack_getLsbD_n, FlagBits.pack_getLsbD_h, FlagBits.pack_getLsbD_c]
  exact ⟨hz, hn, hh, hc⟩

/-- A write of `r8[r]` keeps F. -/
theorem writeR8_f (s : State) (r : R8) (v : Byte) : (writeR8 s r v).cpu.f = s.cpu.f := by
  obtain ⟨hf, -⟩ := writeR8_kept (s := s) r v
  exact hf

theorem busWrite_f (s : State) (a : Word) (v : Byte) : (busWrite s a v).cpu.f = s.cpu.f := by
  rw [busWrite_cpu]

theorem push16_f (s : State) (v : Word) : (push16 s v).cpu.f = s.cpu.f := by
  rw [push16_cpu]

/-- DAA keeps N and clears H. -/
theorem daaFlags_n_h (a : Byte) (n h c : Bool) : (daaFlags a n h c).2.n = n ∧ (daaFlags a n h c).2.h = false := by
  unfold daaFlags
  split <;> exact ⟨rfl, rfl⟩

/-- A shape treats the flags as its cell says. -/
theorem Shape.flags_run {p : Shape} (hp : p ≠ .fetchSecondary) {s t : State} (h : p.run s = .next t) :
    CellObeyed p.flagCell s.cpu.f t.cpu.f := by
  cases p
  case fetchSecondary => exact absurd rfl hp
  all_goals cases h
  case loadR8 | loadR8Imm | resBit | setBit => exact cellObeyed_keep (writeR8_f s _ _)
  case incR8 | decR8 => exact cellObeyed_pack (writeR8_f (s.withFlags _) _ _) trivial rfl trivial rfl
  case rotateR8 op r n =>
    cases op
    case swap => exact cellObeyed_pack (writeR8_f (s.withFlags _) _ _) trivial rfl rfl rfl
    all_goals exact cellObeyed_pack (writeR8_f (s.withFlags _) _ _) trivial rfl rfl trivial
  case bitBit => exact cellObeyed_pack rfl trivial rfl rfl rfl
  case rotateA => exact cellObeyed_pack rfl rfl rfl rfl trivial
  case adjustA =>
    obtain ⟨hn, hh⟩ := daaFlags_n_h s.cpu.a s.flagN s.flagH s.flagC
    exact cellObeyed_pack (x := (daaFlags s.cpu.a s.flagN s.flagH s.flagC).2) rfl trivial hn hh trivial
  case complementA | setCarry => exact cellObeyed_pack rfl rfl rfl rfl rfl
  case complementCarry => exact cellObeyed_pack rfl rfl rfl rfl trivial
  case addHl | loadHlSpOffset | addSpOffset => exact cellObeyed_pack rfl rfl rfl trivial trivial
  case aluA op src n =>
    cases op
    case add | adc | sub | sbc | cp => exact cellObeyed_pack rfl trivial rfl trivial trivial
    all_goals exact cellObeyed_pack rfl trivial rfl rfl rfl
  case storeA | storeAThenHl => exact cellObeyed_keep (busWrite_f s _ _)
  case storeSp => exact cellObeyed_keep (congrArg Cpu.f (writeWord_cpu s _ _))
  case pushStk | callTo => exact cellObeyed_keep (push16_f s _)
  case callIf =>
    split
    · exact cellObeyed_keep (push16_f s _)
    · exact cellObeyed_keep rfl
  case popStk r =>
    cases r
    case af => exact ⟨trivial, trivial, trivial, trivial⟩
    all_goals exact cellObeyed_keep rfl
  case loadR16 r _ | incR16 r | decR16 r => cases r <;> exact cellObeyed_keep rfl
  case jumpIf | jumpRelativeIf | retIf => split <;> exact cellObeyed_keep rfl
  all_goals exact cellObeyed_keep rfl

/-- An instruction keeps F's low nibble 0. -/
theorem Effect.flagsLow {s t : State} (h : Effect s t) (hs : s.cpu.f &&& 0x0F = 0) : t.cpu.f &&& 0x0F = 0 := by
  induction h with
  | start => exact hs
  | cpu _ _ _ hc ih => exact hc ih
  | write t a v _ ih => rwa [busWrite_cpu]
  | enables _ _ _ _ ih | took _ _ _ ih => exact ih

/-- Settles O39, by the cell of the shape; the low nibble, by the effects of an instruction. -/
theorem flagsFollowTheirColumn : Obligations.FlagsFollowTheirColumn := by
  intro i s t h
  have hcell : CellObeyed (flagsOf i s) s.cpu.f t.cpu.f := by
    obtain ⟨hi, hrun⟩ | ⟨rfl, hne, hrun⟩ := run_of_exec h
    · obtain ⟨hflags, -⟩ := columns_shapeOf hi s
      rw [hflags]
      exact Shape.flags_run (shapeOf_ne_fetchSecondary hi) hrun
    · obtain ⟨hflags, -⟩ := columns_prefixCb s
      rw [hflags]
      exact Shape.flags_run (s := skipBytes s 1) (shapeOf_ne_fetchSecondary hne) hrun
  obtain ⟨hz, hn, hh, hc⟩ := hcell
  obtain ⟨u, hu, heffect⟩ := exec_effect i s
  cases hu.symm.trans h
  exact ⟨hz, hn, hh, hc, heffect.flagsLow⟩

end Sys2Proof.Laws
end

section
/-! SUPPORT. What the system step keeps, and how many cycles it can take (60_exceptions R340, 20_memory R66, R68). -/

namespace Sys2Proof.Laws

open Sys2Proof.Machine Sys2Proof.Claims

/-- The numbers of cycles that a step can take. -/
def stepCosts : List Nat := [4, 8, 12, 16, 20, 24]

/-- The primary table's cycles are such numbers; 0xCB has none of its own. -/
theorem cycleGrid_mem : ∀ op : Byte, op ≠ 0xCB → (cycleGrid.getD (op.toNat / 16) []).getD (op.toNat % 16) 0 ∈ stepCosts ∧
    (cycleGridNotTaken.getD (op.toNat / 16) []).getD (op.toNat % 16) 0 ∈ stepCosts := by
  decide

/-- The secondary table's cycles are such numbers. -/
theorem secondaryCycles_mem : ∀ b : Byte, secondaryCycles b ∈ stepCosts := by
  decide

/-- The columns' cycles of an instruction are such numbers. -/
theorem cyclesOf_mem (i : Instr) (s : State) : cyclesOf i s ∈ stepCosts := by
  unfold cyclesOf
  generalize (encode i).headD 0 = op, (encode i).getD 1 (busRead s s.cpu.pc) = b
  dsimp only
  split
  next => exact secondaryCycles_mem b
  next h =>
    obtain ⟨htaken, hnot⟩ := cycleGrid_mem op h
    split
    · exact htaken
    · exact hnot

/-- The CPU step from the first state to the second keeps the cartridge, the inputs and the buttons, and costs cycles of the list. -/
def CpuStepKeeps (s t : State) : Prop :=
  t.cart = s.cart ∧ t.inputs = s.inputs ∧ t.joypad.buttons = s.joypad.buttons ∧ t.cycles ∈ stepCosts

/-- An instruction's effect keeps them. -/
theorem Effect.cpuStepKeeps {s t : State} (h : Effect s t) (hc : t.cycles ∈ stepCosts) : CpuStepKeeps s t := by
  obtain ⟨hcart, hinputs, hbuttons, -⟩ := h.frame
  exact ⟨hcart, hinputs, hbuttons, hc⟩

/-- Taking an interrupt keeps them. -/
theorem dispatch_keeps (s : State) (k : IrqKind) : CpuStepKeeps s (dispatch s k) := by
  let u := State.acknowledge { s with irq := { s.irq with ime := false, imePending := false } } k
  have h : Effect u (dispatch s k) := .took _ _ (.withPc _ (.push16 _ .start))
  exact h.cpuStepKeeps (by decide : Config.intDispatchCost ∈ stepCosts)

/-- Running an instruction keeps them. -/
theorem runInstr_keeps {s t : State} (h : runInstr s = .next t) : CpuStepKeeps s t := by
  rw [runInstr_eq] at h
  have hcycles := exec_cycles h
  obtain ⟨u, hu, heffect⟩ := exec_effect _ _
  cases hu.symm.trans h
  exact heffect.cpuStepKeeps (hcycles ▸ cyclesOf_mem _ _)

/-- Every CPU step keeps them. -/
theorem cpuStep_keeps {s t : State} (h : cpuStep s = .next t) : CpuStepKeeps s t := by
  obtain ⟨-, hs⟩ | ⟨-, -, -, hs⟩ | ⟨k, -, -, -, hs⟩ | ⟨-, -, -, hs⟩ := cpuStep_cases s
  · cases hs.symm.trans h
    exact ⟨rfl, rfl, rfl, (by decide : 4 ∈ stepCosts)⟩
  · cases hs.symm.trans h
    exact ⟨rfl, rfl, rfl, (by decide : 4 ∈ stepCosts)⟩
  · cases hs.symm.trans h
    exact dispatch_keeps (wake s) k
  · exact runInstr_keeps (s := wake s) (hs.symm.trans h)

/-- Settles O11: the joypad event takes the input, the CPU step keeps it and has its cost, and the devices change neither. -/
theorem stepTakesOneInputAndKeepsTheCartridge : Obligations.StepTakesOneInputAndKeepsTheCartridge := by
  intro s t h
  obtain ⟨u, hu⟩ := cpuStep_next (takeInput s)
  cases (step_eq hu).symm.trans h
  obtain ⟨hcart, hinputs, hbuttons, hcycles⟩ := cpuStep_keeps hu
  rw [takeInput, pressButtons_eq] at hcart hinputs hbuttons
  obtain ⟨timer, ppu, ifl, frame, hdevices⟩ := advanceDevices_eq u
  rw [hdevices]
  exact ⟨hcart, hinputs, hbuttons, hcycles⟩

end Sys2Proof.Laws
end
